-- ==== Sys2Proof/Word.lean ====
section
/-! DEFINITION. The word types of the Rencab 2400 model: the things the manual treats as bits
(section 3.1, Table 1-6, section 6.4), and the digit values of Chapter 7. -/

namespace Sys2Proof

/-- One byte on the wire or in a buffer. -/
abbrev Byte := BitVec 8

/-- A byte string, first byte first (section 3.1); a frame is one without its frame check sequence. -/
abbrev Bytes := List Byte

/-- A 16-byte key of the block cipher (section 6.4). -/
abbrev Key := BitVec 128

/-- A 16-byte block; byte 0 is the most significant. -/
abbrev Block := BitVec 128

/-- An Ethernet station address. -/
abbrev Mac := BitVec 48

/-- An IPv4 address. -/
abbrev Ip := BitVec 32

/-- A UDP port. -/
abbrev UdpPort := BitVec 16

/-- The check value of a key: the first 3 bytes of E(key, zero block) (section 4.1). -/
abbrev CheckValue := BitVec 24

/-- A tag control field (R4); `none` where a frame is untagged. -/
abbrev TagControl := Option (BitVec 16)

/-- A decimal digit value, 0 to 9 (section 7.1); addition is modulo 10. -/
abbrev Digit := Fin 10

end Sys2Proof
end

