-- ==== Sys2Proof/Config.lean ====
section
/-! DEFINITION. The fixed sizes of the part, each with the rule or table that states it. The manual
leaves no value of the part open to an implementation that a step reads, so there is no opaque
constant here; what is written at manufacture (the factory record) is a field of the state. -/

namespace Sys2Proof.Config

/-- A bridge buffer holds 32 frames (Table 1-4, R18). -/
def bridgeCapacity : Nat := 32

/-- The job queue has 64 entries (R111). -/
def queueEntries : Nat := 64

/-- QUEUE_HIGH holds from 48 occupied entries (R118). -/
def queueHighMark : Nat := 48

/-- The message buffer and the response buffer hold 1472 bytes (section 9.1, R172). -/
def bufferBytes : Nat := 1472

/-- The largest UDP payload of a wrapped request (R90). -/
def wrapLimit : Nat := 1472

/-- A global counter's maximum (R197). -/
def counterMax : Nat := 4294967295

/-- A per-till statistic's maximum (R51). -/
def statMax : Nat := 65535

/-- The largest till number (Table 3-1). -/
def tillNumberMax : Nat := 4095

/-- The largest payload offset of a probe or a locator (Tables 2-1 and 2-2). -/
def offsetMax : Nat := 1023

/-- The largest VLAN setting (Table 1-5). -/
def vlanMax : Nat := 4094

/-- The largest value of the local floor (Table 9-5). -/
def floorMax : Nat := 128

/-- The largest companion length (R36). -/
def companionMax : Nat := 48

end Sys2Proof.Config
end

