-- ==== Sys2Proof/Syntax.lean ====
section
/-! DEFINITION. The commands of the block: one constructor per row of spec/opcode_table.json, which
lists the part's steps (events at the ports, the pins, the clock and the cipher lanes, and the items
of management messages). -/

namespace Sys2Proof

/-- The two Ethernet ports (section 1.2 of the introduction): T faces the tills, L the line. -/
inductive PortId where
  | T
  | L
  deriving DecidableEq, Repr

/-- The commands. A row that acts at one of several places names the place: the port of a link report,
an arrival or a completed transmission, the till entry of a deadline expiry, the lane of a completing
payment job. An item row carries no operand, because the item executed is the one that `next item`
names in MGU's message buffer (R171). -/
inductive Instr where
  /-- Power-on or assertion of RSTN (R2). -/
  | powerOnReset
  /-- ERQ changes to asserted (R80). -/
  | eraseLineAsserted
  /-- One millisecond passes (R1, R85). -/
  | uptimeTick
  /-- The countdown of a till's exchange is at 0 and its expiry is taken (R104, R105). -/
  | deadlineExpiry (till : Fin 128)
  /-- A port's physical layer device reports link up (R5). -/
  | linkUp (port : PortId)
  /-- A port's physical layer device reports link down (R6). -/
  | linkDown (port : PortId)
  /-- A frame's last byte and frame check sequence have arrived (R3); `bytes` runs from the first byte
  of the destination address to the last byte of the frame check sequence. -/
  | frameReceived (port : PortId) (bytes : Bytes)
  /-- The frame being sent has left the port (R21). -/
  | transmissionComplete (port : PortId)
  /-- The WRAP job on a lane completes (R93). -/
  | wrapCompletion (lane : Fin 4)
  /-- The VERIFY job on a lane completes (R102, R103). -/
  | verifyCompletion (lane : Fin 4)
  /-- The MGMT_TAG job completes (R169). -/
  | mgmtTagResult
  /-- The KEY_UNWRAP job completes (R130). -/
  | keyUnwrapResult
  /-- MGU completes the response after the last item (R174). -/
  | responseCompletion
  /-- The RESPONSE_TAG job completes (R159, R174). -/
  | responseTagResult
  /-- Item kind 1 (R181). -/
  | readSettings
  /-- Item kind 2 (R181). -/
  | writeSettings
  /-- Item kind 3 (R55). -/
  | readTill
  /-- Item kind 4 (R52). -/
  | writeTill
  /-- Item kind 5 (R54). -/
  | clearTill
  /-- Item kind 6 (R40). -/
  | readRule
  /-- Item kind 7 (R39). -/
  | writeRule
  /-- Item kind 8 (R40). -/
  | clearRule
  /-- Item kind 9 (R42). -/
  | readLocator
  /-- Item kind 10 (R41). -/
  | writeLocator
  /-- Item kind 11 (R42). -/
  | clearLocator
  /-- Item kind 12 (R183). -/
  | readDestination
  /-- Item kind 13 (R183). -/
  | writeDestination
  /-- Item kind 14 (R183). -/
  | clearDestination
  /-- Item kind 15 (R75). -/
  | readSlot
  /-- Item kind 16 (R67). -/
  | stageOpen
  /-- Item kind 17 (R68). -/
  | stageKeys
  /-- Item kind 18 (R72). -/
  | switch
  /-- Item kind 19 (R73). -/
  | retire
  /-- Item kind 20 (R74). -/
  | discardStage
  /-- Item kind 21 (R191). -/
  | readEvents
  /-- Item kind 22 (R193). -/
  | writeEventMap
  /-- Item kind 23 (R192). -/
  | writeEventEnables
  /-- Item kind 24 (R191). -/
  | clearEvents
  /-- Item kind 25 (R198). -/
  | readCounters
  /-- Item kind 26 (R198). -/
  | clearCounters
  /-- Item kind 27 (R177). -/
  | loadMgmtKeys
  /-- Item kind 28 (R184). -/
  | restart
  /-- Item kind 29 (R185). -/
  | erase
  /-- ERQ changes to deasserted (R80). -/
  | eraseLineDeasserted
  /-- The battery supply of the retained store is lost (R2). -/
  | batterySupplyLost
  /-- An item whose kind is not in Table 11-6 (R171). -/
  | unknownItemKind
  deriving DecidableEq, Repr

end Sys2Proof
end

