-- ==== Sys2Proof/Machine/Bytes.lean ====
section
/-! DEFINITION. Byte strings: big-endian fields (section 3.1 of the introduction), writing over a part of a
string, the ones' complement sum (R149) and the Ethernet frame check sequence (R3). -/

namespace Sys2Proof.Machine

/-- The big-endian number a byte string holds (section 3.1). -/
def beNat (bs : Bytes) : Nat := bs.foldl (fun acc b => acc * 256 + b.toNat) 0

/-- `n` as a big-endian field of `w` bytes. -/
def beBytes : Nat → Nat → Bytes
  | 0, _ => []
  | w + 1, n => BitVec.ofNat 8 (n / 256 ^ w) :: beBytes w n

/-- `w` bytes from offset `o` (fewer where the string ends). -/
def slice (bs : Bytes) (o w : Nat) : Bytes := (bs.drop o).take w

/-- The big-endian number in the `w` bytes at offset `o`. -/
def fieldNat (bs : Bytes) (o w : Nat) : Nat := beNat (slice bs o w)

/-- The byte at offset `o`. -/
def byteAt (bs : Bytes) (o : Nat) : Byte := bs.getD o 0

/-- `bs` with `new` written over the bytes from offset `o` on. -/
def overwrite (bs : Bytes) (o : Nat) (new : Bytes) : Bytes :=
  bs.take o ++ new ++ bs.drop (o + new.length)

/-- The bits of a vector as a number: element `i` is bit `i` (Chapter 11). -/
def bitsToNat {n : Nat} (v : Vector Bool n) : Nat :=
  v.toList.foldr (fun b acc => acc * 2 + b.toNat) 0

/-! ## Ones' complement arithmetic (R149) -/

/-- A byte string read as 16-bit words, the earlier byte the more significant; an odd string is completed
with one zero byte (R149). -/
def words : Bytes → List Nat
  | [] => []
  | [a] => [a.toNat * 256]
  | a :: b :: rest => (a.toNat * 256 + b.toNat) :: words rest

/-- The end-around carry (R149, step 2), repeated at most `fuel` times. -/
def foldCarry : Nat → Nat → Nat
  | 0, t => t
  | fuel + 1, t => if t > 0xFFFF then foldCarry fuel (t % 65536 + t / 65536) else t

/-- The ones' complement sum of a list of words (R149). Each repetition of the carry lowers a total above
FFFFh, and a list of `n` words needs fewer than `n + 1` repetitions. -/
def onesSum (ws : List Nat) : Nat := foldCarry (ws.length + 1) ws.sum

/-- The checksum of a list of words: FFFFh less the sum (R149). -/
def checksum (ws : List Nat) : Nat := 0xFFFF - onesSum ws

/-- The words of the UDP pseudo-header (R11, R149). -/
def pseudoWords (src dst : Ip) (udpLength : Nat) : List Nat :=
  words (beBytes 4 src.toNat ++ beBytes 4 dst.toNat) ++ [17, udpLength]

/-! ## Frame check sequence (R3) -/

/-- One bit of the reflected CRC-32 shift. -/
def crcBit (c : Nat) : Nat := if c % 2 = 1 then (c / 2) ^^^ 0xEDB88320 else c / 2

/-- One byte of the CRC-32. -/
def crcByte (c : Nat) (b : Byte) : Nat :=
  crcBit (crcBit (crcBit (crcBit (crcBit (crcBit (crcBit (crcBit (c ^^^ b.toNat))))))))

/-- The CRC-32 register after a byte string, from a value. Its two cases are one formula; the match makes the
kernel compute the register at each byte. -/
def crcOf (c : Nat) : Bytes → Nat
  | [] => c
  | b :: rest =>
    match crcByte c b with
    | 0 => crcOf 0 rest
    | n + 1 => crcOf (n + 1) rest

/-- The frame check sequence of a frame: the 32-bit cyclic redundancy check of the Ethernet standard (R3),
sent least significant byte first. PRESUMED: the polynomial and bit order are the published
standard's, which the manual names and does not restate (notes/assumptions/3.md). -/
def fcs (frame : Bytes) : Bytes := (beBytes 4 (0xFFFFFFFF - crcOf 0xFFFFFFFF frame)).reverse

/-- The bytes a transmitter puts on the wire for a frame: zero padding to 60 bytes, then the frame check
sequence (R20). -/
def wireImage (frame : Bytes) : Bytes :=
  let padded := frame ++ List.replicate (60 - frame.length) 0
  padded ++ fcs padded

end Sys2Proof.Machine
end

