-- ==== Sys2Proof/Machine/Aes.lean ====
section
/-! DEFINITION. The block cipher E and its inverse D (section 6.4): AES-128. PRESUMED: the values are those of
the published AES-128 standard, which the manual names and does not restate
(notes/assumptions/2.md). -/

namespace Sys2Proof.Machine

/-- A block's 16 bytes, byte 0 first. -/
def blockBytes (b : Block) : Bytes := beBytes 16 b.toNat

/-- The block of a string of 16 bytes. -/
def blockOfBytes (bs : Bytes) : Block := BitVec.ofNat 128 (beNat bs)

/-- The substitution table, one row for each high nibble, 16 bytes to a row. -/
def sboxRows : List Nat := [
  0x637c777bf26b6fc53001672bfed7ab76, 0xca82c97dfa5947f0add4a2af9ca472c0,
  0xb7fd9326363ff7cc34a5e5f171d83115, 0x04c723c31896059a071280e2eb27b275,
  0x09832c1a1b6e5aa0523bd6b329e32f84, 0x53d100ed20fcb15b6acbbe394a4c58cf,
  0xd0efaafb434d338545f9027f503c9fa8, 0x51a3408f929d38f5bcb6da2110fff3d2,
  0xcd0c13ec5f974417c4a77e3d645d1973, 0x60814fdc222a908846eeb814de5e0bdb,
  0xe0323a0a4906245cc2d3ac629195e479, 0xe7c8376d8dd54ea96c56f4ea657aae08,
  0xba78252e1ca6b4c6e8dd741f4bbd8b8a, 0x703eb5664803f60e613557b986c11d9e,
  0xe1f8981169d98e949b1e87e9ce5528df, 0x8ca1890dbfe6426841992d0fb054bb16]

/-- The inverse substitution table. -/
def invSboxRows : List Nat := [
  0x52096ad53036a538bf40a39e81f3d7fb, 0x7ce339829b2fff87348e4344c4dee9cb,
  0x547b9432a6c2233dee4c950b42fac34e, 0x082ea16628d924b2765ba2496d8bd125,
  0x72f8f66486689816d4a45ccc5d65b692, 0x6c704850fdedb9da5e154657a78d9d84,
  0x90d8ab008cbcd30af7e45805b8b34506, 0xd02c1e8fca3f0f02c1afbd0301138a6b,
  0x3a9111414f67dcea97f2cfcef0b4e673, 0x96ac7422e7ad3585e2f937e81c75df6e,
  0x47f11a711d29c5896fb7620eaa18be1b, 0xfc563e4bc6d279209adbc0fe78cd5af4,
  0x1fdda8338807c731b11210592780ec5f, 0x60517fa919b54a0d2de57a9f93c99cef,
  0xa0e03b4dae2af5b0c8ebbb3c83539961, 0x172b047eba77d626e169146355210c7d]

/-- A byte looked up in a substitution table. -/
def lookup (rows : List Nat) (b : Byte) : Byte :=
  BitVec.ofNat 8 (rows.getD (b.toNat / 16) 0 / 256 ^ (15 - b.toNat % 16))

/-- Multiplication by x in the field of the cipher. -/
def xtime (b : Byte) : Byte := if b.getLsbD 7 then (b <<< 1) ^^^ 0x1b else b <<< 1

/-- Multiplication by a constant below 16 in the field of the cipher, given by its bits. -/
def fieldMul (c : BitVec 4) (b : Byte) : Byte :=
  (if c.getLsbD 0 then b else 0) ^^^ (if c.getLsbD 1 then xtime b else 0) ^^^
    (if c.getLsbD 2 then xtime (xtime b) else 0) ^^^
    (if c.getLsbD 3 then xtime (xtime (xtime b)) else 0)

/-- One column multiplied by the circulant matrix with first row `c0 c1 c2 c3`. -/
def mixColumn (c0 c1 c2 c3 : BitVec 4) : Bytes → Bytes
  | [a, b, c, d] =>
    [fieldMul c0 a ^^^ fieldMul c1 b ^^^ fieldMul c2 c ^^^ fieldMul c3 d,
     fieldMul c3 a ^^^ fieldMul c0 b ^^^ fieldMul c1 c ^^^ fieldMul c2 d,
     fieldMul c2 a ^^^ fieldMul c3 b ^^^ fieldMul c0 c ^^^ fieldMul c1 d,
     fieldMul c1 a ^^^ fieldMul c2 b ^^^ fieldMul c3 c ^^^ fieldMul c0 d]
  | other => other

/-- The four columns of a state of 16 bytes, each mixed. -/
def mixColumns (c0 c1 c2 c3 : BitVec 4) (st : Bytes) : Bytes :=
  mixColumn c0 c1 c2 c3 (slice st 0 4) ++ mixColumn c0 c1 c2 c3 (slice st 4 4) ++
    mixColumn c0 c1 c2 c3 (slice st 8 4) ++ mixColumn c0 c1 c2 c3 (slice st 12 4)

/-- A state's bytes in the order a list of positions gives. -/
def permute (order : List Nat) (st : Bytes) : Bytes := order.map (byteAt st)

/-- Row r of the state rotated left by r. -/
def shiftOrder : List Nat := [0, 5, 10, 15, 4, 9, 14, 3, 8, 13, 2, 7, 12, 1, 6, 11]

/-- Row r of the state rotated right by r. -/
def unshiftOrder : List Nat := [0, 13, 10, 7, 4, 1, 14, 11, 8, 5, 2, 15, 12, 9, 6, 3]

/-- Bytewise exclusive-or of two strings (section 6.4). -/
def xorBytes (a b : Bytes) : Bytes := List.zipWith (· ^^^ ·) a b

/-- The next round key: the last word rotated, substituted and joined with the round constant, then each
word joined with the one before it. -/
def nextRoundKey (rcon : Byte) (k : Bytes) : Bytes :=
  let last := slice k 12 4
  let t := ((last.drop 1 ++ last.take 1).map (lookup sboxRows))
  let w0 := xorBytes (slice k 0 4) (xorBytes t [rcon, 0, 0, 0])
  let w1 := xorBytes (slice k 4 4) w0
  let w2 := xorBytes (slice k 8 4) w1
  let w3 := xorBytes last w2
  w0 ++ w1 ++ w2 ++ w3

/-- The round keys after a given one, for a list of round constants. -/
def roundKeys (k : Bytes) : List Byte → List Bytes
  | [] => []
  | rcon :: rest => nextRoundKey rcon k :: roundKeys (nextRoundKey rcon k) rest

/-- The round constants of the ten rounds. -/
def roundConstants : List Byte := [0x01, 0x02, 0x04, 0x08, 0x10, 0x20, 0x40, 0x80, 0x1b, 0x36]

/-- One full round of encipherment. -/
def encRound (st rk : Bytes) : Bytes :=
  xorBytes (mixColumns 2 3 1 1 (permute shiftOrder (st.map (lookup sboxRows)))) rk

/-- One full round of decipherment, the inverse of `encRound`. -/
def decRound (st rk : Bytes) : Bytes :=
  (permute unshiftOrder (mixColumns 14 11 13 9 (xorBytes st rk))).map (lookup invSboxRows)

/-- E(K, X): the block cipher applied under key K to block X (section 6.4). -/
def cipherE (key : Key) (x : Block) : Block :=
  let rks := roundKeys (blockBytes key) roundConstants
  let st := (rks.take 9).foldl encRound (xorBytes (blockBytes x) (blockBytes key))
  blockOfBytes (xorBytes (permute shiftOrder (st.map (lookup sboxRows))) (rks.getD 9 []))

/-- D(K, X): the inverse of E under key K (section 6.4). -/
def cipherD (key : Key) (x : Block) : Block :=
  let rks := roundKeys (blockBytes key) roundConstants
  let st := (permute unshiftOrder (xorBytes (blockBytes x) (rks.getD 9 []))).map (lookup invSboxRows)
  blockOfBytes (xorBytes ((rks.take 9).reverse.foldl decRound st) (blockBytes key))

end Sys2Proof.Machine
end

