-- ==== Sys2Proof/Machine/State.lean ====
section
/-! DEFINITION. The state of the Rencab 2400 as plain data, block by block (Table 1-1 of the introduction),
and the state after reset, which is the state a cold start leaves (section 5 of the introduction). -/

namespace Sys2Proof.Machine

/-! ## Why a step can stop -/

/-- The reasons a command can stop the part. There is none: the manual gives every command an effect in
every state where its event can occur, and the part has no halt state. -/
inductive Fault where
  deriving DecidableEq, Repr

/-- The reasons a command is refused. -/
inductive Refusal where
  /-- Raised by `exec` alone, for a row of the table whose arm has no meaning yet. Safe: nothing is
  claimed about such a command. No arm raises it now. -/
  | notModelled (mnemonic : String)
  deriving DecidableEq, Repr

/-! ## Ports (Chapter 1) -/

/-- Link state of a port (Table 1-3). -/
inductive Link where
  | up
  | down
  deriving DecidableEq, Repr

/-- The two sources of a transmitter (R20), and what `last served` names. -/
inductive TxSource where
  | bridge
  | own
  deriving DecidableEq, Repr

/-- An own-output queue entry: it names the buffer that holds its frame (Table 1-9). -/
inductive OwnEntry where
  /-- A wrapped request, in a frame slot. -/
  | wrapped (slot : Fin 64)
  /-- A forwarded reply, in a frame slot. -/
  | forwarded (slot : Fin 64)
  /-- A stand-in reply, in an entry of the stand-in buffer. -/
  | standIn (entry : Fin 16)
  /-- The management response, in MGU's response buffer. -/
  | response
  /-- A notice, in EVU's waiting buffer (in its sending buffer once taken). -/
  | notice
  /-- An ARP answer, in one of the port's two ARP answer buffers. -/
  | arp (buffer : Fin 2)
  deriving DecidableEq, Repr

/-- What a transmitter is sending: a bridged frame or an entry of the own-output queue. -/
inductive TxKind where
  | bridged
  | own (entry : OwnEntry)
  deriving DecidableEq, Repr

/-- A transmission in progress (R20): its kind, the frame as held when it was taken, and the bytes put on
the wire (padded to 60 bytes, with the frame check sequence). -/
structure Sending where
  kind : TxKind
  frame : Bytes
  wire : Bytes
  deriving DecidableEq, Repr

/-- A port's state (Table 1-3) with the bridge buffer that drains to it (Table 1-4): on port L `bridge` is
the T-to-L bridge buffer, on port T the L-to-T bridge buffer. `sending = none` is transmitter IDLE. -/
structure PortState where
  link : Link
  sending : Option Sending
  lastServed : TxSource
  ownQueue : List OwnEntry
  arp : Vector (Option Bytes) 2
  receive : Option Bytes
  bridge : List Bytes
  deriving DecidableEq, Repr

/-! ## Recognition (Chapter 2) -/

/-- A probe of a rule entry (Table 2-1). -/
structure Probe where
  offset : Nat
  value : Byte
  mask : Byte
  deriving DecidableEq, Repr

/-- A rule entry (Table 2-1). -/
structure Rule where
  valid : Bool
  probes : List Probe
  locator : Fin 8
  route : Fin 4
  deriving DecidableEq, Repr

/-- How PAN digits are held (Table 2-2). -/
inductive Encoding where
  | ascii
  | packed
  deriving DecidableEq, Repr

/-- A locator's card indicator (Table 2-2). -/
structure Indicator where
  offset : Nat
  bit : Fin 8
  invert : Bool
  deriving DecidableEq, Repr

/-- A locator's companion part (Table 2-2). -/
structure CompanionField where
  lengthOffset : Nat
  dataOffset : Nat
  deriving DecidableEq, Repr

/-- A locator entry (Table 2-2); an absent optional part is `none`. -/
structure Locator where
  valid : Bool
  seqOffset : Nat
  seqWidth : Nat
  indicator : Option Indicator
  panLengthOffset : Nat
  panOffset : Nat
  encoding : Encoding
  companion : Option CompanionField
  fill : Byte
  deriving DecidableEq, Repr

/-- A till sequence with its width in bytes (R31, R87). -/
structure Sequence where
  width : Nat
  value : Nat
  deriving DecidableEq, Repr

/-- Stand-in reasons (Tables 5-5 and 11-9). -/
inductive Reason where
  | noKey
  | keySpent
  | badLength
  | badDigit
  | checkDigit
  | companionLong
  | fieldRange
  | oversize
  | busy
  | plainNumber
  | noRoute
  | replyLost
  deriving DecidableEq, Repr

/-- The card part of an accepted capture (Table 2-4): the PAN digits with their encoding and offset, and the
companion bytes with their offset (no bytes when the companion length is 0). -/
structure Card where
  digits : List Digit
  encoding : Encoding
  panOffset : Nat
  companion : Bytes
  companionOffset : Nat
  deriving DecidableEq, Repr

/-- An accepted capture (R38, Table 2-4). `card = none` is a request without a card. -/
structure Capture where
  till : Fin 128
  route : Fin 4
  seq : Sequence
  card : Option Card
  fill : Byte
  sourcePort : UdpPort
  deriving DecidableEq, Repr

/-! ## Key store (Chapter 4) -/

/-- Bank states (R57). -/
inductive BankState where
  | empty
  | staged
  | live
  | draining
  deriving DecidableEq, Repr

/-- The two banks of a slot. -/
inductive BankId where
  | A
  | B
  deriving DecidableEq, Repr

/-- A bank record (Table 4-1). -/
structure KeyBank where
  state : BankState
  generation : Byte
  ceilingCode : Fin 8
  counter : Nat
  wrapKey : Key
  surKey : Key
  wrapCheck : CheckValue
  surCheck : CheckValue
  refs : Nat
  deriving DecidableEq, Repr

/-- A key slot of two banks (R57). -/
structure KeySlot where
  a : KeyBank
  b : KeyBank
  deriving DecidableEq, Repr

/-- KYS's load state (R66). -/
inductive LoadState where
  | none
  | opened (slot : Fin 16) (generation : Byte) (code : Fin 8)
  | unwrapping (slot : Fin 16) (generation : Byte) (code : Fin 8)
  deriving DecidableEq, Repr

/-! ## Exchanges and tills (Chapters 3 and 5) -/

/-- States of an exchange record (Table 5-1). -/
inductive Phase where
  | admitted
  | awaiting
  | verifying
  deriving DecidableEq, Repr

/-- An exchange record (Table 5-1). Jobs are named by their identity (R111). -/
structure Exchange where
  phase : Phase
  seq : Sequence
  sourcePort : UdpPort
  slot : Fin 16
  bank : BankId
  generation : Byte
  counter : Nat
  deadline : Nat
  expiredWhileVerifying : Bool
  wrapJob : Option Nat
  verifyJob : Option Nat
  deriving DecidableEq, Repr

/-- A till entry (Table 3-1). -/
structure TillEntry where
  valid : Bool
  number : Nat
  ip : Ip
  mac : Mac
  slot : Fin 16
  timeoutCode : Byte
  wrapsSent : Nat
  refusals : Nat
  repliesLost : Nat
  exchange : Option Exchange
  deriving DecidableEq, Repr

/-- A set destination record (R183). -/
structure Destination where
  ip : Ip
  port : UdpPort
  mac : Mac
  deriving DecidableEq, Repr

/-! ## Cipher engine (Chapter 6) -/

/-- What WRAP and VERIFY jobs carry from their exchange (Table 6-1): the till entry they were entered for,
the captured bank with its generation and counter, the till number and their frame slot. -/
structure JobTarget where
  till : Fin 128
  slot : Fin 16
  bank : BankId
  generation : Byte
  counter : Nat
  tillNumber : Nat
  frame : Fin 64
  deriving DecidableEq, Repr

/-- What a job carries (Table 6-1). -/
inductive JobWork where
  | wrap (target : JobTarget) (capture : Capture) (destination : Destination)
  | verify (target : JobTarget) (trailer : Bytes) (messageLength : Nat)
  | mgmtTag (key : Key)
  | keyUnwrap (ktk : Key) (keys : List (Key × CheckValue))
  | responseTag (key : Key)
  deriving DecidableEq, Repr

/-- A job with its identity (R111). -/
structure Job where
  id : Nat
  work : JobWork
  deriving DecidableEq, Repr

/-- The working values of a surrogate computation, held in the lane (R146). -/
structure SurrogateWork where
  block : Block
  cipher : Block
  keystream : List Digit
  candidate : List Digit
  surrogate : List Digit
  deriving DecidableEq, Repr

/-- A WRAP job's derived keys and result, in the lane (R122, R126). -/
structure WrapValues where
  encKey : Key
  tagKey : Key
  surrogate : Option SurrogateWork
  cipherText : Bytes
  header : Bytes
  tag : Bytes
  deriving DecidableEq, Repr

/-- A VERIFY job's derived keys and result, in the lane (R127). -/
structure VerifyValues where
  encKey : Key
  tagKey : Key
  pass : Bool
  deriving DecidableEq, Repr

/-- A job running on a lane. Its inputs are read when the lane takes it (R115), so its working values and the
result it will hand over are fixed from then on. -/
inductive Running where
  | wrap (id : Nat) (target : JobTarget) (capture : Capture) (destination : Destination)
      (values : WrapValues)
  | verify (id : Nat) (target : JobTarget) (trailer : Bytes) (messageLength : Nat)
      (values : VerifyValues)
  | mgmtTag (id : Nat) (key : Key) (pass : Bool)
  | keyUnwrap (id : Nat) (ktk : Key) (keys : List (Key × CheckValue))
      (recovered : List Key) (pass : Bool)
  | responseTag (id : Nat) (key : Key) (tag : Bytes)
  deriving DecidableEq, Repr

/-! ## Management unit (Chapter 9) -/

/-- The origin of a management message (R166). -/
inductive Origin where
  | remote
  | store
  deriving DecidableEq, Repr

/-- The management key record (Table 9-3); also the form of pending keys (Table 9-1). -/
structure MgmtKeys where
  mtk : Key
  ktk : Key
  lmk : Option Key
  deriving DecidableEq, Repr

/-- The message context (Table 9-1). `replacedPorts` is the model's own field: the management ports that the message's
WRITE_SETTINGS items have replaced so far, latest first, from which the last row of R188 is answered. DEDUCED
(notes/assumptions/33.md). -/
structure Context where
  origin : Origin
  port : PortId
  senderMac : Mac
  senderIp : Ip
  senderPort : UdpPort
  answerIp : Ip
  answerPort : UdpPort
  tagControl : TagControl
  key : Key
  sequence : Nat
  nextItem : Nat
  pendingKeys : Option MgmtKeys
  restartPending : Bool
  replacedPorts : List UdpPort
  job : Option Nat
  deriving DecidableEq, Repr

/-- States of MGU (Table 9-2). -/
inductive MguState where
  | idle
  | authenticating
  | executing
  | tagging
  | answering
  deriving DecidableEq, Repr

/-- Bridge modes (Table 1-5). -/
inductive BridgeMode where
  | closed
  | guarded
  deriving DecidableEq, Repr

/-- The settings record (Table 9-5). -/
structure Settings where
  serviceAddress : Ip
  servicePort : UdpPort
  lineAddress : Ip
  replyPort : UdpPort
  managementPort : UdpPort
  noticePort : UdpPort
  noticeDestination : Option (Fin 4)
  tillVlan : Nat
  lineVlan : Nat
  bridgeMode : BridgeMode
  warnMargin : Nat
  localFloor : Nat
  deriving DecidableEq, Repr

/-- The factory record (section 1.2 of the introduction). -/
structure FactoryRecord where
  serial : BitVec 64
  station : Mac
  mtk : Key
  ktk : Key
  deriving DecidableEq, Repr

/-! ## Event unit (Chapter 10) -/

/-- The 18 event sources, in order of number (Tables 10-1 and 10-2). -/
inductive EventSource where
  | tagFail
  | replyLost
  | lateReply
  | guardBlock
  | malformed
  | unknownTill
  | noRule
  | refusal
  | mgmtReject
  | counterSaturated
  | erased
  | lineDown
  | tillSideDown
  | queueHigh
  | storeFull
  | keyLow
  | keySpent
  | noLiveKey
  deriving DecidableEq, Repr

/-- The 33 global counters (Table 10-3). -/
inductive Counter where
  | bridgedTL
  | bridgedLT
  | bridgeDrops
  | portDrops
  | requestsRecognised
  | wrapsSent
  | standIns (reason : Reason)
  | duplicates
  | superseded
  | repliesForwarded
  | tagFailures
  | lateReplies
  | replyBusy
  | guardBlocks
  | malformed
  | unknownTill
  | noRule
  | mgmtAccepted
  | mgmtRejected
  | mgmtBusy
  | standInDrops
  | noticesSent
  deriving DecidableEq, Repr

/-- EVU's waiting notice: its frame, and the identification it keeps through rewrites (R148, R195). -/
structure WaitingNotice where
  ident : BitVec 16
  frame : Bytes
  deriving DecidableEq, Repr

/-! ## The state -/

/-- The whole state. `pending` is the queue of waiting commands; `nextJob` is the model's own source of job
identities; every other field is the manual's. The retained store holds no second copy: every change of
a retained field is written to it in the same event (R43, R61, R70, R169, R178, R181, R192, R193), so what
a warm start reads back is the field itself, and only the store's validity is kept apart. -/
structure State where
  /-- The commands waiting, first in, first out (the model's own field). -/
  pending : List Instr
  /-- Serial, station address and factory management keys (section 1.2 of the introduction). -/
  factory : FactoryRecord
  /-- Whether the retained store is valid (R2). -/
  storeValid : Bool
  /-- Whether the erase line is asserted (R80). -/
  eraseLine : Bool
  /-- The uptime counter in milliseconds (R1). -/
  uptime : BitVec 32
  /-- PTC, with the L-to-T bridge buffer. -/
  portT : PortState
  /-- PLC, with the T-to-L bridge buffer. -/
  portL : PortState
  /-- RQR's Rule Table (R24). -/
  rules : Vector Rule 16
  /-- RQR's Locator Table (R25). -/
  locators : Vector Locator 8
  /-- TLT's entries, each with EXC's exchange record (R43, R83). -/
  tills : Vector TillEntry 128
  /-- KYS's key slots (R57). -/
  slots : Vector KeySlot 16
  /-- KYS's load state (R66). -/
  load : LoadState
  /-- CPE's waiting jobs, oldest first (R111). -/
  waiting : List Job
  /-- CPE's lanes (R111). -/
  lanes : Vector (Option Running) 4
  /-- The management job waiting in MGU for an entry (R113). -/
  mgmtWaiting : Option Job
  /-- The next job identity (the model's own field, R111). -/
  nextJob : Nat
  /-- FRS's frame slots (section 6.3); a free slot reads as empty. -/
  frames : Vector Bytes 64
  /-- FRS's free list, oldest first (R119). -/
  freeSlots : List (Fin 64)
  /-- EXC's stand-in buffer (R110). -/
  standIns : Vector (Option Bytes) 16
  /-- FRW's IP identification counter (R148). -/
  ident : BitVec 16
  /-- MGU's state (Table 9-2). -/
  mgu : MguState
  /-- MGU's message buffer. -/
  message : Bytes
  /-- MGU's response buffer: the response payload built so far. -/
  response : Bytes
  /-- The response in MGU's response buffer with the headers FRW built for it (R159). -/
  responseFrame : Bytes
  /-- MGU's message context (Table 9-1). -/
  context : Option Context
  /-- The management key record (R176). -/
  mgmtKeys : MgmtKeys
  /-- Last accepted sequence of the remote origin (R170). -/
  lastRemote : Nat
  /-- Last accepted sequence of the local origin (R170). -/
  lastLocal : Nat
  /-- The settings record (R181). -/
  settings : Settings
  /-- The destination table (R183); `none` is a record not set, whose fields are 0. -/
  destinations : Vector (Option Destination) 4
  /-- EVU's statuses (R189, R190). -/
  status : Vector Bool 18
  /-- EVU's enables (R192). -/
  enables : Vector Bool 18
  /-- The event map (R193). -/
  eventMap : Vector (Option (Fin 24)) 18
  /-- EVU's waiting notice buffer (R195). -/
  noticeWaiting : Option WaitingNotice
  /-- EVU's sending notice buffer (R195). -/
  noticeSending : Option Bytes
  /-- The global counters (R197). -/
  counters : Vector Nat 33
  deriving DecidableEq, Repr

/-! ## Cold values -/

/-- A port after a cold or warm start (Table 1-10). -/
def PortState.cold : PortState :=
  { link := .down, sending := none, lastServed := .bridge, ownQueue := [],
    arp := Vector.replicate 2 none, receive := none, bridge := [] }

/-- A cold rule entry (R26). -/
def Rule.cold : Rule := { valid := false, probes := [], locator := 0, route := 0 }

/-- A cold locator entry (R26): sequence width 1, everything else 0 or absent. -/
def Locator.cold : Locator :=
  { valid := false, seqOffset := 0, seqWidth := 1, indicator := none, panLengthOffset := 0,
    panOffset := 0, encoding := .ascii, companion := none, fill := 0 }

/-- A cold till entry (Table 3-2). -/
def TillEntry.cold : TillEntry :=
  { valid := false, number := 0, ip := 0, mac := 0, slot := 0, timeoutCode := 0,
    wrapsSent := 0, refusals := 0, repliesLost := 0, exchange := none }

/-- The EMPTY values of a bank (R64). -/
def KeyBank.cleared : KeyBank :=
  { state := .empty, generation := 0, ceilingCode := 0, counter := 0, wrapKey := 0, surKey := 0,
    wrapCheck := 0, surCheck := 0, refs := 0 }

/-- A slot of two EMPTY banks (R81). -/
def KeySlot.cleared : KeySlot := { a := .cleared, b := .cleared }

/-- The cold settings (Table 9-5). -/
def Settings.cold : Settings :=
  { serviceAddress := 0, servicePort := 0, lineAddress := 0, replyPort := 0,
    managementPort := 7710, noticePort := 0, noticeDestination := none, tillVlan := 0,
    lineVlan := 0, bridgeMode := .closed, warnMargin := 1000, localFloor := 128 }

/-- The factory record of the model's part: DESIGN CHOICE, all zero (notes/assumptions/1.md). -/
def FactoryRecord.blank : FactoryRecord := { serial := 0, station := 0, mtk := 0, ktk := 0 }

/-- The management keys the factory record gives (R176). -/
def FactoryRecord.keys (f : FactoryRecord) : MgmtKeys := { mtk := f.mtk, ktk := f.ktk, lmk := none }

/-- The machine right after reset: what a cold start leaves (section 5 of the introduction; Tables 1-10,
3-2, 4-6, 6-3, 9-6 and 10-4), with the erase line deasserted. Both links are DOWN, so LINE_DOWN and
TILL_SIDE_DOWN are set (R5); every other status is clear. -/
def State.reset : State :=
  { pending := []
    factory := .blank
    storeValid := true
    eraseLine := false
    uptime := 0
    portT := .cold
    portL := .cold
    rules := Vector.replicate 16 .cold
    locators := Vector.replicate 8 .cold
    tills := Vector.replicate 128 .cold
    slots := Vector.replicate 16 .cleared
    load := .none
    waiting := []
    lanes := Vector.replicate 4 none
    mgmtWaiting := none
    nextJob := 0
    frames := Vector.replicate 64 []
    freeSlots := List.finRange 64
    standIns := Vector.replicate 16 none
    ident := 0
    mgu := .idle
    message := []
    response := []
    responseFrame := []
    context := none
    mgmtKeys := FactoryRecord.blank.keys
    lastRemote := 0
    lastLocal := 0
    settings := .cold
    destinations := Vector.replicate 4 none
    status := ((Vector.replicate 18 false).set 11 true).set 12 true
    enables := Vector.replicate 18 false
    eventMap := Vector.replicate 18 none
    noticeWaiting := none
    noticeSending := none
    counters := Vector.replicate 33 0 }

end Sys2Proof.Machine
end

