-- ==== Sys2Proof/Machine/Frames.lean ====
section
/-! DEFINITION. Frames on the wire: the headers ADP reads (R3, R4, R8 to R11, R15), the frames FRW builds
(R150, R151) and the ARP answer (R15). Frames are without their frame check sequence. -/

namespace Sys2Proof.Machine

/-! ## Reading a frame -/

/-- A frame is tagged when the two bytes after its source address are 8100h (R3). -/
def isTagged (f : Bytes) : Bool := fieldNat f 12 2 == 0x8100

/-- The bytes of the Ethernet header: 14, or 18 when tagged. -/
def headerLength (f : Bytes) : Nat := if isTagged f then 18 else 14

/-- The tag control of a frame, or that it is untagged (R4). -/
def tagControlOf (f : Bytes) : TagControl :=
  if isTagged f then some (BitVec.ofNat 16 (fieldNat f 14 2)) else none

/-- The frame's type, after any one tag; a second tag is not read (R4). -/
def etherType (f : Bytes) : Nat := fieldNat f (headerLength f - 2) 2

/-- The VLAN value: the identifier of the tag, or 0 when untagged (R4). -/
def vlanValue (f : Bytes) : Nat :=
  match tagControlOf f with
  | none => 0
  | some t => t.toNat % 4096

/-- Ethernet destination address. -/
def etherDestination (f : Bytes) : Mac := BitVec.ofNat 48 (fieldNat f 0 6)

/-- Ethernet source address. -/
def etherSource (f : Bytes) : Mac := BitVec.ofNat 48 (fieldNat f 6 6)

/-- A field of the datagram: `w` bytes at offset `o` from the start of the IPv4 header (Table 1-6). -/
def ipField (f : Bytes) (o w : Nat) : Nat := fieldNat f (headerLength f + o) w

/-- IPv4 source address (Table 1-6). -/
def ipSource (f : Bytes) : Ip := BitVec.ofNat 32 (ipField f 12 4)

/-- IPv4 destination address (Table 1-6). -/
def ipDestination (f : Bytes) : Ip := BitVec.ofNat 32 (ipField f 16 4)

/-- IPv4 protocol (Table 1-6). -/
def ipProtocol (f : Bytes) : Nat := ipField f 9 1

/-- IPv4 total length (Table 1-6). -/
def totalLength (f : Bytes) : Nat := ipField f 2 2

/-- UDP source port of a datagram whose IPv4 header has no options. -/
def udpSource (f : Bytes) : UdpPort := BitVec.ofNat 16 (ipField f 20 2)

/-- UDP destination port, bytes 22 and 23 of the datagram (R9). -/
def udpDestination (f : Bytes) : UdpPort := BitVec.ofNat 16 (ipField f 22 2)

/-- UDP length field. -/
def udpLength (f : Bytes) : Nat := ipField f 24 2

/-- The UDP payload: the bytes after the 8-byte UDP header, UDP length less 8 (R11). -/
def udpPayload (f : Bytes) : Bytes := slice f (headerLength f + 28) (udpLength f - 8)

/-- R3: the frame check sequence verifies and the length is within the limits for a tagged or untagged
frame. `bytes` is the frame with its frame check sequence. -/
def portAccepts (bytes : Bytes) : Bool :=
  let f := bytes.take (bytes.length - 4)
  decide (64 ≤ bytes.length) &&
    decide (bytes.length ≤ if isTagged f then 1522 else 1518) &&
    bytes.drop (bytes.length - 4) == fcs f

/-- R10, test 5: the total length agrees with the frame. -/
def lengthAgrees (f : Bytes) : Bool :=
  let a := f.length - headerLength f
  (decide (20 ≤ totalLength f) && totalLength f == a) ||
    (decide (totalLength f < a) && f.length + 4 == 64)

/-- R10: the five tests of the IPv4 header. -/
def ipv4Accepts (f : Bytes) : Bool :=
  ipField f 0 1 / 16 == 4 && ipField f 0 1 % 16 == 5 && ipField f 6 2 % 0x4000 == 0 &&
    onesSum (words (slice f (headerLength f) 20)) == 0xFFFF && lengthAgrees f

/-- R11: the tests of a UDP datagram. -/
def udpAccepts (f : Bytes) : Bool :=
  decide (28 ≤ totalLength f) && udpLength f == totalLength f - 20 &&
    (ipField f 26 2 == 0 ||
      onesSum (pseudoWords (ipSource f) (ipDestination f) (udpLength f) ++
        words (slice f (headerLength f + 20) (udpLength f))) == 0xFFFF)

/-! ## Building a frame -/

/-- The Ethernet header of a built frame, tagged when a tag control is given (R151). -/
def etherHeader (dst src : Mac) (tag : TagControl) (type : Nat) : Bytes :=
  beBytes 6 dst.toNat ++ beBytes 6 src.toNat ++
    (match tag with
     | none => []
     | some t => beBytes 2 0x8100 ++ beBytes 2 t.toNat) ++ beBytes 2 type

/-- The tag control of a frame built for a VLAN: none for 0, else priority 0, drop-eligible 0 and the VLAN
(R151). -/
def vlanTag (vlan : Nat) : TagControl := if vlan = 0 then none else some (BitVec.ofNat 16 vlan)

/-- The addressing of a datagram FRW builds. -/
structure UdpHeaders where
  dstMac : Mac
  srcMac : Mac
  tagControl : TagControl
  srcIp : Ip
  dstIp : Ip
  srcPort : UdpPort
  dstPort : UdpPort
  ident : BitVec 16

/-- The 20-byte IPv4 header with a given checksum field (R151). -/
def ipv4Header (h : UdpHeaders) (udpLen check : Nat) : Bytes :=
  [0x45, 0] ++ beBytes 2 (20 + udpLen) ++ beBytes 2 h.ident.toNat ++ [0, 0, 64, 17] ++
    beBytes 2 check ++ beBytes 4 h.srcIp.toNat ++ beBytes 4 h.dstIp.toNat

/-- The UDP header and data with a given checksum field. -/
def udpDatagram (h : UdpHeaders) (check : Nat) (payload : Bytes) : Bytes :=
  beBytes 2 h.srcPort.toNat ++ beBytes 2 h.dstPort.toNat ++ beBytes 2 (8 + payload.length) ++
    beBytes 2 check ++ payload

/-- The UDP checksum of a built datagram, FFFFh in place of 0000h (R150). -/
def udpCheck (h : UdpHeaders) (payload : Bytes) : Nat :=
  let c := checksum (pseudoWords h.srcIp h.dstIp (8 + payload.length) ++
    words (udpDatagram h 0 payload))
  if c = 0 then 0xFFFF else c

/-- A datagram as FRW builds it, both checksums computed (R150, R151). -/
def buildUdp (h : UdpHeaders) (payload : Bytes) : Bytes :=
  let udpLen := 8 + payload.length
  etherHeader h.dstMac h.srcMac h.tagControl 0x0800 ++
    ipv4Header h udpLen (checksum (words (ipv4Header h udpLen 0))) ++
    udpDatagram h (udpCheck h payload) payload

/-! ## ARP (R15) -/

/-- The broadcast address. -/
def broadcast : Mac := 0xFFFFFFFFFFFF

/-- Whether a frame is an ARP request for the address `own`, at a part with the given station address
(R15). -/
def isArpRequest (station : Mac) (own : Ip) (f : Bytes) : Bool :=
  etherType f == 0x0806 && (etherDestination f == broadcast || etherDestination f == station) &&
    ipField f 0 2 == 1 && ipField f 2 2 == 0x0800 && ipField f 4 1 == 6 && ipField f 5 1 == 4 &&
    ipField f 6 2 == 1 && BitVec.ofNat 32 (ipField f 24 4) == own && own != 0

/-- The answer to an ARP request (R15). -/
def arpAnswer (station : Mac) (own : Ip) (f : Bytes) : Bytes :=
  let senderMac := slice f (headerLength f + 8) 6
  let senderIp := slice f (headerLength f + 14) 4
  etherHeader (BitVec.ofNat 48 (beNat senderMac)) station (tagControlOf f) 0x0806 ++
    beBytes 2 1 ++ beBytes 2 0x0800 ++ [6, 4] ++ beBytes 2 2 ++ beBytes 6 station.toNat ++
    beBytes 4 own.toNat ++ senderMac ++ senderIp

end Sys2Proof.Machine
end

