-- ==== Sys2Proof/Machine/Guard.lean ====
section
/-! DEFINITION. The mod-10 check (R134) and the number guard's scan (R161, R162). -/

namespace Sys2Proof.Machine

/-- What a digit contributes to the check sum: doubled at an even position from the right, a doubled value
above 9 less 9; itself at an odd position (R134, Table 7-1). -/
def contribution (even : Bool) (d : Digit) : Nat :=
  if even then (if 2 * d.val > 9 then 2 * d.val - 9 else 2 * d.val) else d.val

/-- The check sum of digits listed from the right, the first at an even position or not. -/
def checkSumFrom (even : Bool) : List Digit → Nat
  | [] => 0
  | d :: ds => contribution even d + checkSumFrom (!even) ds

/-- The check sum of a digit string written left to right (R134). -/
def checkSum (ds : List Digit) : Nat := checkSumFrom false ds.reverse

/-- The mod-10 check: the check sum is a multiple of 10 (R134). -/
def mod10Passes (ds : List Digit) : Bool := checkSum ds % 10 == 0

/-- A byte of value 30h to 39h. -/
def isDigitByte (b : Byte) : Bool := decide (0x30 ≤ b.toNat) && decide (b.toNat ≤ 0x39)

/-- The digit value of a digit byte: the byte less 30h (R161). -/
def digitOf (b : Byte) : Digit := Fin.ofNat 10 (b.toNat - 0x30)

/-- The runs of a byte string, left to right, with `current` the digits of the run being read (latest
first); every byte that is no digit closes a run, which may be empty (R161). -/
def runsFrom (current : List Digit) : Bytes → List (List Digit)
  | [] => [current.reverse]
  | b :: rest =>
    if isDigitByte b then runsFrom (digitOf b :: current) rest
    else current.reverse :: runsFrom [] rest

/-- The maximal runs of digit bytes (R161). -/
def runs (bs : Bytes) : List (List Digit) := (runsFrom [] bs).filter (fun r => !r.isEmpty)

/-- The bytes the guard scans: those after the Ethernet header and one VLAN tag (R161). -/
def scannedBytes (f : Bytes) : Bytes := f.drop (headerLength f)

/-- A run that blocks: 13 to 19 digits that pass the check (R162). -/
def runBlocks (r : List Digit) : Bool :=
  decide (13 ≤ r.length) && decide (r.length ≤ 19) && mod10Passes r

/-- The number guard's decision on a frame (R162). -/
def guardPasses (f : Bytes) : Bool := !(runs (scannedBytes f)).any runBlocks

end Sys2Proof.Machine
end

