-- ==== Sys2Proof/Machine/Cipher.lean ====
section
/-! DEFINITION. The constructions of Chapters 6 and 7: derivation, counter mode, the chained tag, the
surrogate, the packing and writing back of digits, and the work of each job (R122 to R130, R136 to
R145, R153). -/

namespace Sys2Proof.Machine

/-! ## Derivation, keystream and tag (R122 to R125) -/

/-- The derivation block for a purpose byte (R122). -/
def derivationBlock (p : Byte) (t : JobTarget) : Block :=
  blockOfBytes ([p, BitVec.ofNat 8 t.slot.val, t.generation, 0] ++ beBytes 2 t.tillNumber ++
    beBytes 4 t.counter ++ List.replicate 6 0)

/-- K_enc of an exchange (R122). -/
def encKey (wrapKey : Key) (t : JobTarget) : Key := cipherE wrapKey (derivationBlock 1 t)

/-- K_tag of an exchange (R122). -/
def tagKey (wrapKey : Key) (t : JobTarget) : Key := cipherE wrapKey (derivationBlock 2 t)

/-- Counter block `j` (R124). -/
def counterBlock (t : JobTarget) (j : Nat) : Block :=
  blockOfBytes ([3, 0, 0, 0] ++ beBytes 2 t.tillNumber ++ beBytes 4 t.counter ++
    List.replicate 5 0 ++ [BitVec.ofNat 8 j])

/-- The keystream of `n` bytes (R124): ⌈n/16⌉ blocks, cut to `n` bytes. -/
def keystream (key : Key) (t : JobTarget) (n : Nat) : Bytes :=
  (((List.range ((n + 15) / 16)).map fun j => blockBytes (cipherE key (counterBlock t j))).flatten).take n

/-- The 16-byte blocks of a string, the last completed with zero bytes (R125); at most `fuel` of them. -/
def chunks : Nat → Bytes → List Bytes
  | 0, _ => []
  | fuel + 1, bs =>
    if bs.isEmpty then []
    else (bs.take 16 ++ List.replicate (16 - bs.length) 0) :: chunks fuel (bs.drop 16)

/-- The chained tag under `key` with header block `h` over `x` (R125). -/
def chainedTag (key : Key) (h : Bytes) (x : Bytes) : Bytes :=
  let y := (chunks x.length x).foldl (fun y b => cipherE key (y ^^^ blockOfBytes b))
    (cipherE key (blockOfBytes h))
  (blockBytes (cipherE key (y ^^^ BitVec.ofNat 128 x.length))).take 8

/-- The check value of a key: the first 3 bytes of E(key, zero block) (section 4.1). -/
def checkValue (key : Key) : CheckValue := BitVec.ofNat 24 (fieldNat (blockBytes (cipherE key 0)) 0 3)

/-! ## Digits as bytes (R34, R123, R143, R144) -/

/-- Digits packed two per byte, the earlier in the high nibble, an odd last one followed by the pad Fh. -/
def packDigits : List Digit → Bytes
  | [] => []
  | [d] => [BitVec.ofNat 8 (d.val * 16 + 15)]
  | d :: e :: rest => BitVec.ofNat 8 (d.val * 16 + e.val) :: packDigits rest

/-- Digits in an encoding (R143, R144). -/
def encodeDigits (enc : Encoding) (ds : List Digit) : Bytes :=
  match enc with
  | .ascii => ds.map fun d => BitVec.ofNat 8 (0x30 + d.val)
  | .packed => packDigits ds

/-! ## The surrogate (R137 to R141) -/

/-- The surrogate block B: the first six digits, the last four, and the length (R137). -/
def surrogateBlock (ds : List Digit) : Block :=
  blockOfBytes ((ds.take 6 ++ ds.drop (ds.length - 4)).map (fun d => BitVec.ofNat 8 d.val) ++
    [BitVec.ofNat 8 ds.length] ++ List.replicate 5 0)

/-- The keystream digits: the first `L - 10` bytes of S, each modulo 10 (R138). -/
def surrogateKeystream (ds : List Digit) (s : Bytes) : List Digit :=
  (s.take (ds.length - 10)).map fun b => Fin.ofNat 10 b.toNat

/-- The middle digits d7 to d(L-4) (section 7.2). -/
def middleDigits (ds : List Digit) : List Digit := (ds.drop 6).take (ds.length - 10)

/-- The candidate: the middle digits with the keystream digits added modulo 10 (R139). -/
def candidateDigits (ds ks : List Digit) : List Digit :=
  ds.take 6 ++ List.zipWith (· + ·) (middleDigits ds) ks ++ ds.drop (ds.length - 4)

/-- The fail-forcing adjustment: the last middle digit raised by 1 modulo 10 (R141). -/
def adjustDigits (ds : List Digit) : List Digit := ds.modify (ds.length - 5) (· + 1)

/-- The surrogate of a candidate: itself when it fails the check, adjusted when it passes (R140). -/
def surrogateOf (candidate : List Digit) : List Digit :=
  if mod10Passes candidate then adjustDigits candidate else candidate

/-- The surrogate computation under K_sur, with its working values (R136 to R141, R146). -/
def surrogateWork (surKey : Key) (ds : List Digit) : SurrogateWork :=
  let b := surrogateBlock ds
  let s := cipherE surKey b
  let ks := surrogateKeystream ds (blockBytes s)
  let c := candidateDigits ds ks
  { block := b, cipher := s, keystream := ks, candidate := c, surrogate := surrogateOf c }

/-! ## Captures -/

/-- The card plaintext P (R123): the packed digits, then the companion bytes; empty without a card. -/
def cardPlaintext (c : Capture) : Bytes :=
  match c.card with
  | none => []
  | some k => packDigits k.digits ++ k.companion

/-- The card plaintext length n_p (R36). -/
def plainLength (c : Capture) : Nat :=
  match c.card with
  | none => 0
  | some k => (k.digits.length + 1) / 2 + k.companion.length

/-- PAN length L of a capture, 0 without a card (Table 2-4). -/
def panLength (c : Capture) : Nat :=
  match c.card with
  | none => 0
  | some k => k.digits.length

/-- Companion length c of a capture, 0 without a card (Table 2-4). -/
def companionLength (c : Capture) : Nat :=
  match c.card with
  | none => 0
  | some k => k.companion.length

/-- The rewritten message: the surrogate over the PAN digits, then the fill byte over the companion bytes
(R38, R126, R153). Without a card the message is as the till sent it. -/
def rewriteMessage (c : Capture) (surrogate : List Digit) (m : Bytes) : Bytes :=
  match c.card with
  | none => m
  | some k =>
    let m1 := overwrite m k.panOffset (encodeDigits k.encoding surrogate)
    if k.companion.length = 0 then m1
    else overwrite m1 k.companionOffset (List.replicate k.companion.length c.fill)

/-- The trailer header H (Table 11-1). -/
def trailerHeader (t : JobTarget) (c : Capture) : Bytes :=
  [0xF3, 0x5C, 1, if c.card.isSome then 1 else 0, BitVec.ofNat 8 t.slot.val, t.generation] ++
    beBytes 2 t.tillNumber ++ beBytes 4 t.counter ++
    [BitVec.ofNat 8 c.route.val, BitVec.ofNat 8 (panLength c), BitVec.ofNat 8 (companionLength c), 0]

/-! ## The work of each job (R126 to R130) -/

/-- The surrogate digits of a job's values; none without a card. -/
def WrapValues.surrogateDigits (v : WrapValues) : List Digit :=
  match v.surrogate with
  | none => []
  | some w => w.surrogate

/-- A WRAP job's work on a request message under its bank's keys (R126). -/
def wrapValues (wrapKey surKey : Key) (t : JobTarget) (c : Capture) (message : Bytes) : WrapValues :=
  let ke := encKey wrapKey t
  let kt := tagKey wrapKey t
  let sur := c.card.map fun k => surrogateWork surKey k.digits
  let p := cardPlaintext c
  let ct := xorBytes p (keystream ke t p.length)
  let h := trailerHeader t c
  let digits := match sur with
    | none => []
    | some w => w.surrogate
  { encKey := ke, tagKey := kt, surrogate := sur, cipherText := ct, header := h,
    tag := chainedTag kt h (rewriteMessage c digits message ++ ct) }

/-- A VERIFY job's work on a reply payload under its bank's wrap key (R127). -/
def verifyValues (wrapKey : Key) (t : JobTarget) (trailer payload : Bytes) (messageLength : Nat) :
    VerifyValues :=
  let kt := tagKey wrapKey t
  { encKey := encKey wrapKey t, tagKey := kt,
    pass := chainedTag kt (trailer.take 16) (payload.take messageLength) == trailer.drop 16 }

/-- A MGMT_TAG job's result on a message (R128). -/
def mgmtTagPasses (key : Key) (message : Bytes) : Bool :=
  chainedTag key (message.take 16) (slice message 16 (message.length - 24)) ==
    message.drop (message.length - 8)

/-- A RESPONSE_TAG job's result on a response without its tag (R129). -/
def responseTag (key : Key) (response : Bytes) : Bytes :=
  chainedTag key (response.take 16) (response.drop 16)

/-- The keys a KEY_UNWRAP job computes (R130). -/
def unwrapKeys (ktk : Key) (keys : List (Key × CheckValue)) : List Key :=
  keys.map fun k => cipherD ktk k.1

/-- Whether every computed check value equals the one given (R130). -/
def unwrapPasses (ktk : Key) (keys : List (Key × CheckValue)) : Bool :=
  keys.all fun k => checkValue (cipherD ktk k.1) == k.2

/-- The payload of a wrapped request (R153). -/
def wrappedPayload (c : Capture) (v : WrapValues) (message : Bytes) : Bytes :=
  rewriteMessage c v.surrogateDigits message ++ v.header ++ v.cipherText ++ v.tag

end Sys2Proof.Machine
end

