-- ==== Sys2Proof/Machine/Operands.lean ====
section
/-! DEFINITION. The operand forms: the fields RQR reads from a payment request (R27 to R36), the reply trailer
(R97, Table 11-2), the management message and its items (R167, Tables 11-5 to 11-8), and the bodies
that items carry and read back. -/

namespace Sys2Proof.Machine

/-! ## Codes (section 11.4) -/

/-- Stand-in reason codes (Table 11-9). -/
def Reason.code : Reason → Nat
  | .noKey => 1
  | .keySpent => 2
  | .badLength => 3
  | .badDigit => 4
  | .checkDigit => 5
  | .companionLong => 6
  | .fieldRange => 7
  | .oversize => 8
  | .busy => 9
  | .plainNumber => 10
  | .noRoute => 11
  | .replyLost => 12

/-- Item results (Table 11-10). -/
inductive ResultCode where
  | done
  | notPermitted
  | badIndex
  | badValue
  | inUse
  | duplicate
  | slotBusy
  | nothingStaged
  | nothingLive
  | sameGeneration
  | pairBroken
  | checkFail
  | slotShared
  | notExecuted
  deriving DecidableEq, Repr

/-- Item result codes (Table 11-10). -/
def ResultCode.code : ResultCode → Byte
  | .done => 0
  | .notPermitted => 1
  | .badIndex => 2
  | .badValue => 3
  | .inUse => 4
  | .duplicate => 5
  | .slotBusy => 6
  | .nothingStaged => 7
  | .nothingLive => 8
  | .sameGeneration => 9
  | .pairBroken => 10
  | .checkFail => 11
  | .slotShared => 12
  | .notExecuted => 13

/-- Bank states as READ_SLOT returns them (Table 11-8). -/
def BankState.code : BankState → Byte
  | .empty => 0
  | .staged => 1
  | .live => 2
  | .draining => 3

/-- Exchange states as READ_TILL returns them (Table 11-8). -/
def phaseCode : Option Exchange → Byte
  | none => 0
  | some x =>
    match x.phase with
    | .admitted => 1
    | .awaiting => 2
    | .verifying => 3

/-- Bridge mode codes (Table 11-7). -/
def BridgeMode.code : BridgeMode → Byte
  | .closed => 0
  | .guarded => 1

/-- PAN encoding codes (Table 11-8). -/
def Encoding.code : Encoding → Byte
  | .ascii => 0
  | .packed => 1

/-- An optional index as one byte, FFh for none (Tables 11-7 and 11-8). -/
def optionByte {n : Nat} : Option (Fin n) → Byte
  | none => 0xFF
  | some i => BitVec.ofNat 8 i.val

/-- A byte read as an index below `n`, if it is one. -/
def indexOf (n : Nat) (b : Byte) : Option (Fin n) :=
  if h : b.toNat < n then some ⟨b.toNat, h⟩ else none

/-- A flag byte that must be 0 or 1 (R39, R41). -/
def flagOf (b : Byte) : Option Bool := if b = 0 then some false else if b = 1 then some true else none

/-! ## Classification (R27, R28) -/

/-- R27: the offset lies inside the payload and the masked byte equals the masked value. -/
def probeMatches (m : Bytes) (p : Probe) : Bool :=
  decide (p.offset < m.length) && (byteAt m p.offset &&& p.mask) == (p.value &&& p.mask)

/-- A valid rule all of whose probes match (R28). -/
def ruleMatches (m : Bytes) (r : Rule) : Bool := r.valid && r.probes.all (probeMatches m)

/-- R28: the first valid rule, in order of index, all of whose probes match. -/
def classify (rules : Vector Rule 16) (m : Bytes) : Option Rule := rules.toList.find? (ruleMatches m)

/-! ## Extraction (R30 to R36) -/

/-- R30: a field of `w` bytes at offset `o` lies inside a payload of `p` bytes. -/
def inside (p o w : Nat) : Bool := w == 0 || decide (o + w ≤ p)

/-- Step 1 (R31): the sequence field, if it lies inside the payload. -/
def readSequence (l : Locator) (m : Bytes) : Option Sequence :=
  if inside m.length l.seqOffset l.seqWidth then
    some { width := l.seqWidth, value := fieldNat m l.seqOffset l.seqWidth }
  else none

/-- Step 2 (R32): whether a card is present. -/
def readCardPresent (l : Locator) (m : Bytes) : Except Reason Bool :=
  match l.indicator with
  | none => .ok true
  | some i =>
    if inside m.length i.offset 1 then .ok ((byteAt m i.offset).getLsbD i.bit.val != i.invert)
    else .error .fieldRange

/-- Step 3 (R33): the PAN length. -/
def readPanLength (l : Locator) (m : Bytes) : Except Reason Nat :=
  if inside m.length l.panLengthOffset 1 then
    let n := (byteAt m l.panLengthOffset).toNat
    if 13 ≤ n ∧ n ≤ 19 then .ok n else .error .badLength
  else .error .fieldRange

/-- The nibbles of a byte string, the high one of each byte first. -/
def nibbles (bs : Bytes) : List Nat := bs.flatMap fun b => [b.toNat / 16, b.toNat % 16]

/-- The digits of an ASCII field, if every byte is a digit (R34). -/
def asciiDigits (field : Bytes) : Option (List Digit) :=
  if field.all isDigitByte then some (field.map digitOf) else none

/-- The `n` digits of a PACKED field, if every digit nibble is 0 to 9 and the pad of an odd count is Fh (R34). -/
def packedDigits (n : Nat) (field : Bytes) : Option (List Digit) :=
  let ns := nibbles field
  if (ns.take n).all (fun x => decide (x ≤ 9)) && (n % 2 == 0 || ns.getD n 0 == 15) then
    some ((ns.take n).map (Fin.ofNat 10))
  else none

/-- Step 4 (R34): the PAN digits in the locator's encoding. -/
def readDigits (l : Locator) (m : Bytes) (n : Nat) : Except Reason (List Digit) :=
  let w := match l.encoding with
    | .ascii => n
    | .packed => (n + 1) / 2
  if inside m.length l.panOffset w then
    let field := slice m l.panOffset w
    let digits := match l.encoding with
      | .ascii => asciiDigits field
      | .packed => packedDigits n field
    match digits with
    | some ds => .ok ds
    | none => .error .badDigit
  else .error .fieldRange

/-- Step 5 (R35): the mod-10 check. -/
def checkDigits (ds : List Digit) : Except Reason Unit :=
  if mod10Passes ds then .ok () else .error .checkDigit

/-- Step 6 (R36): the companion bytes with their offset. -/
def readCompanion (l : Locator) (m : Bytes) : Except Reason (Bytes × Nat) :=
  match l.companion with
  | none => .ok ([], 0)
  | some k =>
    if inside m.length k.lengthOffset 1 then
      let c := (byteAt m k.lengthOffset).toNat
      if c ≤ Config.companionMax then
        if inside m.length k.dataOffset c then .ok (slice m k.dataOffset c, k.dataOffset)
        else .error .fieldRange
      else .error .companionLong
    else .error .fieldRange

/-- Steps 2 to 6 (Table 2-3): the card part of a request, or the first refusal. -/
def readCard (l : Locator) (m : Bytes) : Except Reason (Option Card) :=
  match readCardPresent l m with
  | .error r => .error r
  | .ok false => .ok none
  | .ok true =>
    match readPanLength l m with
    | .error r => .error r
    | .ok n =>
      match readDigits l m n with
      | .error r => .error r
      | .ok ds =>
        match checkDigits ds with
        | .error r => .error r
        | .ok () =>
          match readCompanion l m with
          | .error r => .error r
          | .ok (bytes, offset) =>
            .ok (some { digits := ds, encoding := l.encoding, panOffset := l.panOffset,
                        companion := bytes, companionOffset := offset })

/-- What extraction hands EXC: a refusal with the sequence read so far (R37), or the accepted fields (R38). -/
inductive Extraction where
  | refused (reason : Reason) (seq : Option Sequence)
  | accepted (seq : Sequence) (card : Option Card)
  deriving DecidableEq, Repr

/-- Extraction through a locator (section 2.3). -/
def extract (l : Locator) (m : Bytes) : Extraction :=
  match readSequence l m with
  | none => .refused .fieldRange none
  | some q =>
    match readCard l m with
    | .error r => .refused r (some q)
    | .ok card => .accepted q card

/-- The request capture RQR hands EXC (R37, R38). -/
inductive RequestCapture where
  | refused (till : Fin 128) (route : Fin 4) (reason : Reason) (seq : Option Sequence)
      (sourcePort : UdpPort)
  | accepted (capture : Capture)
  deriving DecidableEq, Repr

/-- The capture of a request of a till, classified by rule `r` and read through its locator `l` (R37, R38). -/
def captureRequest (till : Fin 128) (r : Rule) (l : Locator) (m : Bytes) (sourcePort : UdpPort) :
    RequestCapture :=
  match extract l m with
  | .refused reason q => .refused till r.route reason q sourcePort
  | .accepted q card =>
    .accepted
      { till := till, route := r.route, seq := q, card := card, fill := l.fill,
        sourcePort := sourcePort }

/-- The till entry a capture names. -/
def RequestCapture.till : RequestCapture → Fin 128
  | .refused i _ _ _ _ => i
  | .accepted c => c.till

/-- The sequence a capture holds, if any. -/
def RequestCapture.seq : RequestCapture → Option Sequence
  | .refused _ _ _ q _ => q
  | .accepted c => some c.seq

/-! ## Reply trailer (R97, Table 11-2) -/

/-- The reply trailer: the last 24 bytes of the payload. -/
def replyTrailer (payload : Bytes) : Bytes := payload.drop (payload.length - 24)

/-- R97: the payload holds a trailer with the marker and version of Table 11-2. -/
def replyFormOk (payload : Bytes) : Bool :=
  decide (24 ≤ payload.length) && fieldNat (replyTrailer payload) 0 2 == 0xF35D &&
    fieldNat (replyTrailer payload) 2 1 == 1

/-! ## Management messages (R167, Table 11-5) -/

/-- One item of a management message. -/
structure Item where
  kind : Byte
  body : Bytes
  deriving DecidableEq, Repr

/-- The items of a message: exactly `n` of them must take up all the bytes given (R167, test 5). -/
def parseItems : Nat → Bytes → Option (List Item)
  | 0, [] => some []
  | n + 1, k :: hi :: lo :: rest =>
    let w := hi.toNat * 256 + lo.toNat
    if w ≤ rest.length then
      (parseItems n (rest.drop w)).map (fun items => { kind := k, body := rest.take w } :: items)
    else none
  | _, _ => none

/-- The item bytes of a message: those between its header and its tag. -/
def itemBytes (m : Bytes) : Bytes := slice m 16 (m.length - 24)

/-- The item count of a message's header. -/
def itemCount (m : Bytes) : Nat := fieldNat m 15 1

/-- The items of a message, in order (none where its lengths do not agree). -/
def messageItems (m : Bytes) : List Item := (parseItems (itemCount m) (itemBytes m)).getD []

/-- The sequence of a message's header. -/
def messageSequence (m : Bytes) : Nat := fieldNat m 11 4

/-- R167, tests 1 to 5. -/
def messageFormOk (serial : BitVec 64) (m : Bytes) : Bool :=
  decide (27 ≤ m.length) && fieldNat m 0 2 == 0xF35F && fieldNat m 2 1 == 1 &&
    fieldNat m 3 8 == serial.toNat && decide (1 ≤ itemCount m) && decide (itemCount m ≤ 32) &&
    (parseItems (itemCount m) (itemBytes m)).isSome

/-! ## Item kinds and body lengths (Table 11-6) -/

/-- The body length test of an item of a known kind (R171, step 2; Table 11-6); `none` for an unknown kind. -/
def bodyForm (kind : Nat) (body : Bytes) : Option Bool :=
  match kind with
  | 1 | 21 | 25 | 26 | 28 | 29 => some (body.length == 0)
  | 3 | 5 | 6 | 8 | 9 | 11 | 12 | 14 | 15 | 18 | 19 | 20 => some (body.length == 1)
  | 16 | 23 | 24 => some (body.length == 3)
  | 2 => some (body.length == 25)
  | 4 => some (body.length == 15)
  | 7 => some (decide (5 ≤ body.length) && body.length == 5 + 4 * fieldNat body 4 1)
  | 10 => some (body.length == 21)
  | 13 => some (body.length == 13)
  | 17 => some (body.length == 39)
  | 22 => some (body.length == 18)
  | 27 => some (body.length == 58)
  | _ => none

/-- The read items, which any origin may execute (R173). -/
def isReadKind (kind : Nat) : Bool := kind ∈ [1, 3, 6, 9, 12, 15, 21, 25]

/-- R173: whether an origin may execute an item, given the local floor. -/
def permitted (origin : Origin) (floor : Nat) (item : Item) : Bool :=
  match origin with
  | .remote => true
  | .store =>
    isReadKind item.kind.toNat || item.kind.toNat == 24 ||
      ((item.kind.toNat == 4 || item.kind.toNat == 5) &&
        (item.body.isEmpty || decide (floor ≤ fieldNat item.body 0 1)))

/-! ## Item bodies (Tables 11-7 and 11-8) -/

/-- The settings body (Table 11-7). -/
def settingsBytes (s : Settings) : Bytes :=
  beBytes 4 s.serviceAddress.toNat ++ beBytes 2 s.servicePort.toNat ++
    beBytes 4 s.lineAddress.toNat ++ beBytes 2 s.replyPort.toNat ++
    beBytes 2 s.managementPort.toNat ++ beBytes 2 s.noticePort.toNat ++
    [optionByte s.noticeDestination] ++ beBytes 2 s.tillVlan ++ beBytes 2 s.lineVlan ++
    [s.bridgeMode.code] ++ beBytes 2 s.warnMargin ++ beBytes 1 s.localFloor

/-- R181: the settings a WRITE_SETTINGS body gives, or `none` where a value is out of range; a local floor
above 128 is taken as 128. -/
def parseSettings (b : Bytes) : Option Settings :=
  let tillVlan := fieldNat b 17 2
  let lineVlan := fieldNat b 19 2
  let destination := indexOf 4 (byteAt b 16)
  match flagOf (byteAt b 21) with
  | none => none
  | some guarded =>
    if tillVlan ≤ Config.vlanMax ∧ lineVlan ≤ Config.vlanMax ∧
        (destination.isSome ∨ byteAt b 16 = 0xFF) then
      some
        { serviceAddress := BitVec.ofNat 32 (fieldNat b 0 4)
          servicePort := BitVec.ofNat 16 (fieldNat b 4 2)
          lineAddress := BitVec.ofNat 32 (fieldNat b 6 4)
          replyPort := BitVec.ofNat 16 (fieldNat b 10 2)
          managementPort := BitVec.ofNat 16 (fieldNat b 12 2)
          noticePort := BitVec.ofNat 16 (fieldNat b 14 2)
          noticeDestination := destination
          tillVlan := tillVlan
          lineVlan := lineVlan
          bridgeMode := if guarded then .guarded else .closed
          warnMargin := fieldNat b 22 2
          localFloor := min (fieldNat b 24 1) Config.floorMax }
    else none

/-- The READ_TILL body (Table 11-8). -/
def tillBytes (i : Fin 128) (t : TillEntry) : Bytes :=
  [BitVec.ofNat 8 i.val, if t.valid then 1 else 0] ++ beBytes 2 t.number ++ beBytes 4 t.ip.toNat ++
    beBytes 6 t.mac.toNat ++ [BitVec.ofNat 8 t.slot.val, t.timeoutCode] ++ beBytes 2 t.wrapsSent ++
    beBytes 2 t.refusals ++ beBytes 2 t.repliesLost ++ [phaseCode t.exchange]

/-- The five static fields a WRITE_TILL body gives (Table 11-8). -/
structure TillFields where
  number : Nat
  ip : Ip
  mac : Mac
  slot : Fin 16
  timeoutCode : Byte
  deriving DecidableEq, Repr

/-- R52, check 2: the static fields, or `none` where the till number or the key slot is out of range. -/
def parseTill (b : Bytes) : Option TillFields :=
  let number := fieldNat b 1 2
  match indexOf 16 (byteAt b 13) with
  | none => none
  | some slot =>
    if 1 ≤ number ∧ number ≤ Config.tillNumberMax then
      some
        { number := number
          ip := BitVec.ofNat 32 (fieldNat b 3 4)
          mac := BitVec.ofNat 48 (fieldNat b 7 6)
          slot := slot
          timeoutCode := byteAt b 14 }
    else none

/-- A probe as 4 bytes (Table 11-8). -/
def probeBytes (p : Probe) : Bytes := beBytes 2 p.offset ++ [p.value, p.mask]

/-- The rule body (Table 11-8). -/
def ruleBytes (i : Fin 16) (r : Rule) : Bytes :=
  [BitVec.ofNat 8 i.val, if r.valid then 1 else 0, BitVec.ofNat 8 r.locator.val,
    BitVec.ofNat 8 r.route.val, BitVec.ofNat 8 r.probes.length] ++ r.probes.flatMap probeBytes

/-- The probes of a rule body, 4 bytes each. -/
def parseProbes : Bytes → List Probe
  | a :: b :: v :: m :: rest =>
    { offset := a.toNat * 256 + b.toNat, value := v, mask := m } :: parseProbes rest
  | _ => []

/-- R39, check 2: the rule a WRITE_RULE body gives, or `none` where a value is out of range. -/
def parseRule (b : Bytes) : Option Rule :=
  let probes := parseProbes (b.drop 5)
  match flagOf (byteAt b 1), indexOf 8 (byteAt b 2), indexOf 4 (byteAt b 3) with
  | some valid, some locator, some route =>
    if fieldNat b 4 1 ≤ 8 ∧ probes.all (fun p => decide (p.offset ≤ Config.offsetMax)) = true then
      some { valid := valid, probes := probes, locator := locator, route := route }
    else none
  | _, _, _ => none

/-- The locator body (Table 11-8); an absent part's subfields are 0 (R201). -/
def locatorBytes (i : Fin 8) (l : Locator) : Bytes :=
  [BitVec.ofNat 8 i.val, if l.valid then 1 else 0] ++ beBytes 2 l.seqOffset ++
    [BitVec.ofNat 8 l.seqWidth] ++
    (match l.indicator with
     | none => List.replicate 5 0
     | some d => [(1 : Byte)] ++ beBytes 2 d.offset ++
        [BitVec.ofNat 8 d.bit.val, if d.invert then 1 else 0]) ++
    beBytes 2 l.panLengthOffset ++ beBytes 2 l.panOffset ++
    [l.encoding.code] ++
    (match l.companion with
     | none => List.replicate 5 0
     | some c => [(1 : Byte)] ++ beBytes 2 c.lengthOffset ++ beBytes 2 c.dataOffset) ++ [l.fill]

/-- The card indicator a locator body gives: absent, or present with an offset and a bit in range (R41); the
outer `none` is a value out of range. -/
def parseIndicator (b : Bytes) : Option (Option Indicator) :=
  match flagOf (byteAt b 5) with
  | none => none
  | some false => some none
  | some true =>
    match indexOf 8 (byteAt b 8) with
    | none => none
    | some bit =>
      if fieldNat b 6 2 ≤ Config.offsetMax then
        some (some { offset := fieldNat b 6 2, bit := bit, invert := byteAt b 9 != 0 })
      else none

/-- The companion part a locator body gives (R41). -/
def parseCompanion (b : Bytes) : Option (Option CompanionField) :=
  match flagOf (byteAt b 15) with
  | none => none
  | some false => some none
  | some true =>
    if fieldNat b 16 2 ≤ Config.offsetMax ∧ fieldNat b 18 2 ≤ Config.offsetMax then
      some (some { lengthOffset := fieldNat b 16 2, dataOffset := fieldNat b 18 2 })
    else none

/-- R41, check 2: the locator a WRITE_LOCATOR body gives, or `none` where a value is out of range. -/
def parseLocator (b : Bytes) : Option Locator :=
  let width := fieldNat b 4 1
  match flagOf (byteAt b 1), flagOf (byteAt b 14), parseIndicator b, parseCompanion b with
  | some valid, some packed, some indicator, some companion =>
    if (width = 1 ∨ width = 2 ∨ width = 4) ∧ fieldNat b 2 2 ≤ Config.offsetMax ∧
        fieldNat b 10 2 ≤ Config.offsetMax ∧ fieldNat b 12 2 ≤ Config.offsetMax then
      some
        { valid := valid
          seqOffset := fieldNat b 2 2
          seqWidth := width
          indicator := indicator
          panLengthOffset := fieldNat b 10 2
          panOffset := fieldNat b 12 2
          encoding := if packed then .packed else .ascii
          companion := companion
          fill := byteAt b 20 }
    else none
  | _, _, _, _ => none

/-- The READ_DESTINATION body (Table 11-8); a record not set has its fields 0 (R183). -/
def destinationBytes (i : Fin 4) (d : Option Destination) : Bytes :=
  match d with
  | none => [BitVec.ofNat 8 i.val, 0] ++ List.replicate 12 0
  | some r => [BitVec.ofNat 8 i.val, 1] ++ beBytes 4 r.ip.toNat ++ beBytes 2 r.port.toNat ++
      beBytes 6 r.mac.toNat

/-- The destination a WRITE_DESTINATION body gives (Table 11-8). -/
def parseDestination (b : Bytes) : Destination :=
  { ip := BitVec.ofNat 32 (fieldNat b 1 4), port := BitVec.ofNat 16 (fieldNat b 5 2),
    mac := BitVec.ofNat 48 (fieldNat b 7 6) }

/-- The ceilings of Table 4-2. -/
def ceiling (code : Fin 8) : Nat :=
  [4294967295, 1000000, 500000, 200000, 100000, 50000, 20000, 10000].getD code.val 0

/-- Remaining uses of a bank; an EMPTY bank is reported with 0 (R59). -/
def KeyBank.remaining (b : KeyBank) : Nat :=
  match b.state with
  | .empty => 0
  | .staged | .live | .draining => ceiling b.ceilingCode - b.counter

/-- One bank as READ_SLOT returns it (Table 11-8). -/
def bankBytes (b : KeyBank) : Bytes :=
  [b.state.code, b.generation, BitVec.ofNat 8 b.ceilingCode.val] ++ beBytes 4 b.counter ++
    beBytes 4 b.remaining ++ beBytes 2 b.refs ++ beBytes 3 b.wrapCheck.toNat ++
    beBytes 3 b.surCheck.toNat

/-- The READ_SLOT body (R75, Table 11-8). -/
def slotBytes (i : Fin 16) (k : KeySlot) : Bytes :=
  [BitVec.ofNat 8 i.val] ++ bankBytes k.a ++ bankBytes k.b

/-- A key and its check value at offset `o` of a body (Table 11-8). -/
def keyField (b : Bytes) (o : Nat) : Key × CheckValue :=
  (BitVec.ofNat 128 (fieldNat b o 16), BitVec.ofNat 24 (fieldNat b (o + 16) 3))

/-- The enciphered keys of a STAGE_KEYS body (Table 11-8). -/
def stageKeyList (b : Bytes) : List (Key × CheckValue) := [keyField b 1, keyField b 20]

/-- The enciphered keys of a LOAD_MGMT_KEYS body: an LMK is given unless byte 0 is 0 (R177, R201). -/
def mgmtKeyList (b : Bytes) : List (Key × CheckValue) :=
  if byteAt b 0 = 0 then [keyField b 1, keyField b 20]
  else [keyField b 1, keyField b 20, keyField b 39]

/-- The management keys recovered from a list of 2 or 3 (R177). -/
def recoveredMgmtKeys : List Key → Option MgmtKeys
  | [mtk, ktk] => some { mtk := mtk, ktk := ktk, lmk := none }
  | [mtk, ktk, lmk] => some { mtk := mtk, ktk := ktk, lmk := some lmk }
  | _ => none

/-- A set of sources given in 3 bytes: source `n` in bit `n`; bits 18 to 23 name no source (R201). -/
def sourceSet (b : Bytes) : Vector Bool 18 := Vector.ofFn fun n => (fieldNat b 0 3).testBit n.val

/-- R193, check 1: the map a WRITE_EVENT_MAP body gives, or `none` where a value is neither a slot nor FFh. -/
def parseEventMap (b : Bytes) : Option (Vector (Option (Fin 24)) 18) :=
  if (b.take 18).all (fun x => decide (x.toNat ≤ 23) || x == 0xFF) then
    some (Vector.ofFn fun n => indexOf 24 (byteAt b n.val))
  else none

/-- R193, check 2: whether two or more sources are given the same slot. -/
def mapShares (m : Vector (Option (Fin 24)) 18) : Bool :=
  !decide ((m.toList.filterMap id).Nodup)

end Sys2Proof.Machine
end

