-- ==== Sys2Proof/Machine/Flags.lean ====
section
/-! DEFINITION. The event unit's statuses, conditions and counters (Chapter 10, R50, R51, R76 to R78, R118,
R121): how a source is latched, how a level status follows its condition, how a counter gains. -/

namespace Sys2Proof.Machine

/-! ## Numbers (Tables 10-1 to 10-3) -/

/-- Event source numbers (Table 11-11). -/
def EventSource.idx : EventSource → Fin 18
  | .tagFail => 0
  | .replyLost => 1
  | .lateReply => 2
  | .guardBlock => 3
  | .malformed => 4
  | .unknownTill => 5
  | .noRule => 6
  | .refusal => 7
  | .mgmtReject => 8
  | .counterSaturated => 9
  | .erased => 10
  | .lineDown => 11
  | .tillSideDown => 12
  | .queueHigh => 13
  | .storeFull => 14
  | .keyLow => 15
  | .keySpent => 16
  | .noLiveKey => 17

/-- Index of a stand-in counter: 5 plus the reason's code (section 10.4). -/
def standInIndex : Reason → Fin 33
  | .noKey => 6
  | .keySpent => 7
  | .badLength => 8
  | .badDigit => 9
  | .checkDigit => 10
  | .companionLong => 11
  | .fieldRange => 12
  | .oversize => 13
  | .busy => 14
  | .plainNumber => 15
  | .noRoute => 16
  | .replyLost => 17

/-- Global counter indices (Table 10-3). -/
def Counter.idx : Counter → Fin 33
  | .bridgedTL => 0
  | .bridgedLT => 1
  | .bridgeDrops => 2
  | .portDrops => 3
  | .requestsRecognised => 4
  | .wrapsSent => 5
  | .standIns r => standInIndex r
  | .duplicates => 18
  | .superseded => 19
  | .repliesForwarded => 20
  | .tagFailures => 21
  | .lateReplies => 22
  | .replyBusy => 23
  | .guardBlocks => 24
  | .malformed => 25
  | .unknownTill => 26
  | .noRule => 27
  | .mgmtAccepted => 28
  | .mgmtRejected => 29
  | .mgmtBusy => 30
  | .standInDrops => 31
  | .noticesSent => 32

/-! ## Latching and counting -/

/-- The status of a source. -/
def State.statusOf (s : State) (e : EventSource) : Bool := s.status[e.idx]

/-- The value of a global counter. -/
def State.counterOf (s : State) (c : Counter) : Nat := s.counters[c.idx]

/-- R189: an edge source's status becomes set, whatever its enable. -/
def State.latch (s : State) (e : EventSource) : State := { s with status := s.status.set e.idx true }

/-- R197: a counter gains 1; at its maximum it stays, and the gain that reaches the maximum latches
COUNTER_SATURATED. -/
def State.bump (s : State) (c : Counter) : State :=
  let n := s.counterOf c
  if Config.counterMax ≤ n then s
  else
    let s1 := { s with counters := s.counters.set c.idx (n + 1) }
    if n + 1 = Config.counterMax then s1.latch .counterSaturated else s1

/-- The per-till statistics (Table 3-1). -/
inductive Stat where
  | wrapsSent
  | refusals
  | repliesLost
  deriving DecidableEq, Repr

/-- The value of a statistic. -/
def TillEntry.stat (t : TillEntry) : Stat → Nat
  | .wrapsSent => t.wrapsSent
  | .refusals => t.refusals
  | .repliesLost => t.repliesLost

/-- A till entry with a statistic set. -/
def TillEntry.setStat (t : TillEntry) (k : Stat) (n : Nat) : TillEntry :=
  match k with
  | .wrapsSent => { t with wrapsSent := n }
  | .refusals => { t with refusals := n }
  | .repliesLost => { t with repliesLost := n }

/-- A till entry with its three statistics 0. -/
def TillEntry.zeroStats (t : TillEntry) : TillEntry :=
  { t with wrapsSent := 0, refusals := 0, repliesLost := 0 }

/-- R50, R51: a till's statistic gains 1; at 65,535 it stays, and the gain that reaches 65,535 latches
COUNTER_SATURATED. -/
def State.bumpStat (s : State) (i : Fin 128) (k : Stat) : State :=
  let n := s.tills[i].stat k
  if Config.statMax ≤ n then s
  else
    let s1 := { s with tills := s.tills.set i (s.tills[i].setStat k (n + 1)) }
    if n + 1 = Config.statMax then s1.latch .counterSaturated else s1

/-! ## Conditions of the level sources (Table 10-2) -/

/-- The occupied entries of the job queue: waiting plus running jobs (R111). -/
def State.occupied (s : State) : Nat := s.waiting.length + s.lanes.toList.countP Option.isSome

/-- A slot's LIVE bank, if it has one (at most one is LIVE, R58). -/
def KeySlot.live (k : KeySlot) : Option BankId :=
  if k.a.state = .live then some .A else if k.b.state = .live then some .B else none

/-- A bank of a slot. -/
def KeySlot.bank (k : KeySlot) : BankId → KeyBank
  | .A => k.a
  | .B => k.b

/-- Whether a slot has a LIVE bank with property `p` of its remaining uses. -/
def KeySlot.liveRemaining (k : KeySlot) (p : Nat → Bool) : Bool :=
  (k.a.state == .live && p k.a.remaining) || (k.b.state == .live && p k.b.remaining)

/-- The condition of a level source as the state stands; an edge source has none (R5, R6, R76 to R78, R118,
R121). -/
def State.condition (s : State) : EventSource → Option Bool
  | .lineDown => some (s.portL.link == .down)
  | .tillSideDown => some (s.portT.link == .down)
  | .queueHigh => some (decide (Config.queueHighMark ≤ s.occupied))
  | .storeFull => some s.freeSlots.isEmpty
  | .keyLow => some (s.slots.toList.any
      (·.liveRemaining fun r => decide (1 ≤ r) && decide (r ≤ s.settings.warnMargin)))
  | .keySpent => some (s.slots.toList.any (·.liveRemaining fun r => r == 0))
  | .noLiveKey => some (s.tills.toList.any fun t => t.valid && (s.slots[t.slot]).live.isNone)
  | .tagFail | .replyLost | .lateReply | .guardBlock | .malformed | .unknownTill | .noRule
  | .refusal | .mgmtReject | .counterSaturated | .erased => none

/-- The level sources, 11 to 17. -/
def levelSources : List EventSource :=
  [.lineDown, .tillSideDown, .queueHigh, .storeFull, .keyLow, .keySpent, .noLiveKey]

/-- R190: every level status takes its condition as it is at the end of the event. -/
def State.evalLevels (s : State) : State :=
  { s with
    status := levelSources.foldl
      (fun st e => st.set e.idx ((s.condition e).getD st[e.idx])) s.status }

/-! ## ATTENTION and the slot levels (R192, R193) -/

/-- A source has both status and enable set. -/
def State.active (s : State) (n : Fin 18) : Bool := s.status[n] && s.enables[n]

/-- ATTENTION (R192). -/
def State.attention (s : State) : Bool := (List.finRange 18).any s.active

/-- The level of a notice slot: that of the source mapped to it, or 0 (R193). -/
def State.slotLevel (s : State) (n : Fin 24) : Bool :=
  (List.finRange 18).any fun e => s.eventMap[e] == some n && s.active e

/-- The 24 slot levels. -/
def State.slotLevels (s : State) : Vector Bool 24 := Vector.ofFn s.slotLevel

/-- Whether a slot level or ATTENTION differs between two states (R194). -/
def State.levelsDiffer (s t : State) : Bool :=
  s.attention != t.attention || s.slotLevels != t.slotLevels

/-- The destination record notices go to while notices are possible (R194): the notice destination names a
set record and the notice port is not 0. -/
def State.noticeTarget (s : State) : Option Destination :=
  match s.settings.noticeDestination with
  | none => none
  | some d => if s.settings.noticePort = 0 then none else s.destinations[d]

end Sys2Proof.Machine
end

