-- ==== Sys2Proof/Machine/Ops.lean ====
section
/-! DEFINITION. The operations that commands share, block by block: key store references, frame slots, the job
queue and lanes, offers to the ports and the arbiter, the response's entries and end, notices, closing
an exchange and stand-in replies. -/

namespace Sys2Proof.Machine

/-! ## Ports -/

/-- A port's state. -/
def State.port (s : State) : PortId → PortState
  | .T => s.portT
  | .L => s.portL

/-- The state with one port replaced. -/
def State.setPort (s : State) (p : PortId) (x : PortState) : State :=
  match p with
  | .T => { s with portT := x }
  | .L => { s with portL := x }

/-- The other port. -/
def otherPort : PortId → PortId
  | .T => .L
  | .L => .T

/-- A port's own address (R8). -/
def State.ownAddress (s : State) : PortId → Ip
  | .T => s.settings.serviceAddress
  | .L => s.settings.lineAddress

/-- The first free place of a buffer array. -/
def firstFree {α : Type} {n : Nat} (v : Vector (Option α) n) : Option (Fin n) :=
  (List.finRange n).find? fun i => v[i].isNone

/-! ## Key store (R60 to R64) -/

/-- A bank of a key slot. -/
def State.bank (s : State) (k : Fin 16) (b : BankId) : KeyBank := s.slots[k].bank b

/-- A slot with one bank replaced. -/
def KeySlot.setBank (k : KeySlot) (b : BankId) (x : KeyBank) : KeySlot :=
  match b with
  | .A => { k with a := x }
  | .B => { k with b := x }

/-- The state with one bank replaced. -/
def State.setBank (s : State) (k : Fin 16) (b : BankId) (x : KeyBank) : State :=
  { s with slots := s.slots.set k (s.slots[k].setBank b x) }

/-- R63: a bank after `n` references are released together; a DRAINING bank whose count reaches 0 becomes
EMPTY. -/
def KeyBank.release (b : KeyBank) (n : Nat) : KeyBank :=
  if b.state = .draining ∧ b.refs - n = 0 then .cleared else { b with refs := b.refs - n }

/-- R63: release `n` references on a bank together. -/
def State.releaseRefs (s : State) (k : Fin 16) (b : BankId) (n : Nat) : State :=
  s.setBank k b ((s.bank k b).release n)

/-- R62: take `n` references on a bank. -/
def State.takeRefs (s : State) (k : Fin 16) (b : BankId) (n : Nat) : State :=
  s.setBank k b { s.bank k b with refs := (s.bank k b).refs + n }

/-- A LIVE bank given up (R72, R73): DRAINING while it holds references, else EMPTY. -/
def KeyBank.giveUp (b : KeyBank) : KeyBank :=
  if b.refs = 0 then .cleared else { b with state := .draining }

/-- R60: the key test of an admission on a slot. -/
def keyTest (k : KeySlot) : Except Reason BankId :=
  match k.live with
  | none => .error .noKey
  | some b => if (k.bank b).remaining = 0 then .error .keySpent else .ok b

/-! ## Frame store (R119) -/

/-- A frame slot is freed: it joins the newest end of the free list. -/
def State.freeFrame (s : State) (i : Fin 64) : State :=
  { s with frames := s.frames.set i [], freeSlots := s.freeSlots ++ [i] }

/-! ## Cipher engine (R111 to R117) -/

/-- A job as it runs: its inputs read, its working values and its result (R115, R126 to R130). -/
def State.startJob (s : State) (j : Job) : Running :=
  match j.work with
  | .wrap t c d =>
    .wrap j.id t c d (wrapValues (s.bank t.slot t.bank).wrapKey (s.bank t.slot t.bank).surKey t c
      (udpPayload s.frames[t.frame]))
  | .verify t trailer n =>
    .verify j.id t trailer n
      (verifyValues (s.bank t.slot t.bank).wrapKey t trailer (udpPayload s.frames[t.frame]) n)
  | .mgmtTag k => .mgmtTag j.id k (mgmtTagPasses k s.message)
  | .keyUnwrap ktk keys =>
    .keyUnwrap j.id ktk keys (if unwrapPasses ktk keys then unwrapKeys ktk keys else [])
      (unwrapPasses ktk keys)
  | .responseTag k => .responseTag j.id k (responseTag k s.response)

/-- A lane takes the oldest waiting job, if there is one (R114). -/
def State.takeOn (s : State) (lane : Fin 4) : State :=
  match s.waiting with
  | [] => s
  | j :: rest => { s with waiting := rest, lanes := s.lanes.set lane (some (s.startJob j)) }

/-- R114: the lowest-numbered idle lane takes the oldest waiting job. -/
def State.takeJob (s : State) : State :=
  match firstFree s.lanes with
  | none => s
  | some lane => s.takeOn lane

/-- A job enters the queue at its newest end (R112, R113). -/
def State.enterJob (s : State) (j : Job) : State :=
  ({ s with waiting := s.waiting ++ [j] } : State).takeJob

/-- R113: a management job waiting in MGU takes an entry that has become free. -/
def State.admitWaiting (s : State) : State :=
  match s.mgmtWaiting with
  | none => s
  | some j =>
    if s.occupied < Config.queueEntries then ({ s with mgmtWaiting := none } : State).enterJob j
    else s

/-- MGU offers a management job (R113): it enters the queue, or waits in MGU while all entries are occupied;
the context names it as its current job. -/
def State.offerMgmt (s : State) (w : JobWork) : State :=
  let j : Job := { id := s.nextJob, work := w }
  let s1 : State :=
    { s with
      nextJob := s.nextJob + 1
      context := s.context.map fun c => { c with job := some s.nextJob } }
  if s1.occupied < Config.queueEntries then s1.enterJob j else { s1 with mgmtWaiting := some j }

/-- R116, steps 1 and 2: a lane's job has completed; the lane takes the oldest waiting job, and a management
job waiting in MGU takes the freed entry. -/
def State.finishLane (s : State) (lane : Fin 4) : State :=
  (({ s with lanes := s.lanes.set lane none } : State).takeOn lane).admitWaiting

/-- The lane whose job has property `p`, lowest first. -/
def State.laneWith (s : State) (p : Running → Bool) : Option (Fin 4) :=
  (List.finRange 4).find? fun i =>
    match s.lanes[i] with
    | none => false
    | some r => p r

/-- The frame slot a job holds; management jobs hold none (Table 6-1). -/
def JobWork.frame : JobWork → Option (Fin 64)
  | .wrap t _ _ => some t.frame
  | .verify t _ _ => some t.frame
  | .mgmtTag _ | .keyUnwrap _ _ | .responseTag _ => none

/-! ## Management unit: response entries and the end of a response (R171, R172, R175) -/

/-- The item named by `next item`, which counts from 1 (Table 9-1). -/
def State.itemAt (s : State) : Option Item :=
  match s.context with
  | none => none
  | some c => (messageItems s.message)[c.nextItem - 1]?

/-- A result entry (section 11.3). -/
def resultEntry (kind : Byte) (r : ResultCode) (body : Bytes) : Bytes :=
  [kind, r.code] ++ beBytes 2 body.length ++ body

/-- The item in hand has its result: its entry is appended and `next item` advances (R171). -/
def State.answer (s : State) (kind : Byte) (r : ResultCode) (body : Bytes) : State :=
  { s with
    response := s.response ++ resultEntry kind r body
    context := s.context.map fun c => { c with nextItem := c.nextItem + 1, job := none } }

/-- R172: a read item's body is placed when it fits beside 4 bytes for every item still to execute and the
tag; otherwise the result is NOT_EXECUTED. -/
def State.answerRead (s : State) (kind : Byte) (body : Bytes) : State :=
  let remaining := itemCount s.message - (s.context.elim 0 (·.nextItem))
  if s.response.length + 4 + body.length + 4 * remaining + 8 ≤ Config.bufferBytes then
    s.answer kind .done body
  else s.answer kind .notExecuted []

/-- R168: a rejected message is dropped without a response and MGU returns to IDLE. -/
def State.rejectMessage (s : State) : State :=
  ({ s with mgu := .idle, message := [], context := none } : State)
    |>.latch .mgmtReject |>.bump .mgmtRejected

/-- R175, steps 1 and 2, and R178: the response ends; pending keys are committed, the buffers are emptied and
MGU enters IDLE. Step 3, the restart, follows at the end of the event (`State.restartIfDue`). -/
def State.endResponse (s : State) : State :=
  { s with
    mgmtKeys := (s.context.bind (·.pendingKeys)).getD s.mgmtKeys
    mgu := .idle
    message := []
    response := []
    responseFrame := []
    context := none }

/-! ## Output: buffers, offers and the arbiter (R6, R7, R16 to R21, R163) -/

/-- The buffer of an own-output entry that is discarded or blocked before the transmitter has taken it is
released (tables of R6 and R163). -/
def State.releaseEntry (s : State) (p : PortId) : OwnEntry → State
  | .wrapped i => s.freeFrame i
  | .forwarded i => s.freeFrame i
  | .standIn e => { s with standIns := s.standIns.set e none }
  | .response => s.endResponse
  | .notice => { s with noticeWaiting := none }
  | .arp b => s.setPort p { s.port p with arp := (s.port p).arp.set b none }

/-- The buffer of a transmission that is abandoned is released (table of R6). -/
def State.releaseAbandoned (s : State) (p : PortId) : TxKind → State
  | .bridged => s.bump .bridgeDrops
  | .own .notice => { s with noticeSending := none }
  | .own e => s.releaseEntry p e

/-- The counter of frames bridged out of a port (R21). -/
def bridgedOut : PortId → Counter
  | .L => .bridgedTL
  | .T => .bridgedLT

/-- The buffer of a transmission that has completed is released (table of R21). -/
def State.releaseSent (s : State) (p : PortId) : TxKind → State
  | .bridged => s.bump (bridgedOut p)
  | .own .notice => ({ s with noticeSending := none } : State).bump .noticesSent
  | .own e => s.releaseEntry p e

/-- The frame an own-output entry names, as held (R19). -/
def State.heldFrame (s : State) (p : PortId) : OwnEntry → Bytes
  | .wrapped i => s.frames[i]
  | .forwarded i => s.frames[i]
  | .standIn e => (s.standIns[e]).getD []
  | .response => s.responseFrame
  | .notice => s.noticeWaiting.elim [] (·.frame)
  | .arp b => ((s.port p).arp[b]).getD []

/-- The transmitter takes the oldest bridged frame (R20). -/
def State.takeBridged (s : State) (p : PortId) (f : Bytes) (rest : List Bytes) : State :=
  s.setPort p
    { s.port p with
      sending := some { kind := .bridged, frame := f, wire := wireImage f }
      lastServed := .bridge
      bridge := rest }

/-- The transmitter takes the oldest own-output entry (R20); a notice moves to the sending buffer (R195). -/
def State.takeOwn (s : State) (p : PortId) (e : OwnEntry) (rest : List OwnEntry) : State :=
  let f := s.heldFrame p e
  let s1 := s.setPort p
    { s.port p with
      sending := some { kind := .own e, frame := f, wire := wireImage f }
      lastServed := .own
      ownQueue := rest }
  match e with
  | .notice => { s1 with noticeWaiting := none, noticeSending := some f }
  | .wrapped _ | .forwarded _ | .standIn _ | .response | .arp _ => s1

/-- The arbiter (R20): while the transmitter is IDLE and the link UP, it takes the oldest frame of the only
source that has one, or of the source that `last served` does not name. -/
def State.arbiter (s : State) (p : PortId) : State :=
  if (s.port p).sending.isSome ∨ (s.port p).link = .down then s
  else
    match (s.port p).bridge, (s.port p).ownQueue with
    | [], [] => s
    | f :: rest, [] => s.takeBridged p f rest
    | [], e :: rest => s.takeOwn p e rest
    | f :: fs, e :: es =>
      match (s.port p).lastServed with
      | .own => s.takeBridged p f fs
      | .bridge => s.takeOwn p e es

/-- R163: the guard blocks a frame: GUARD_BLOCK is latched and guard blocks gains 1. -/
def State.guardBlocked (s : State) : State := (s.latch .guardBlock).bump .guardBlocks

/-- An offer's answer to the block that offered the frame (R7, R160). -/
inductive Offer where
  | taken
  | blocked
  deriving DecidableEq, Repr

/-- A frame is offered to a port's own-output queue (R7, R19, R160): discarded while the link is DOWN, which
counts as taken; on port L scanned, and discarded when blocked; otherwise queued, and the arbiter
acts. -/
def State.offerOwn (s : State) (p : PortId) (e : OwnEntry) : State × Offer :=
  if (s.port p).link = .down then (s.releaseEntry p e, .taken)
  else if p = .L ∧ guardPasses (s.heldFrame p e) = false then
    (s.guardBlocked.releaseEntry p e, .blocked)
  else
    ((s.setPort p { s.port p with ownQueue := (s.port p).ownQueue ++ [e] }).arbiter p, .taken)

/-- A frame is offered to the bridge buffer that drains to port `p` (R18). -/
def State.offerBridge (s : State) (p : PortId) (f : Bytes) : State :=
  if (s.port p).link = .down then s.bump .bridgeDrops
  else if p = .L ∧ guardPasses f = false then s.guardBlocked
  else if Config.bridgeCapacity ≤ (s.port p).bridge.length then s.bump .bridgeDrops
  else (s.setPort p { s.port p with bridge := (s.port p).bridge ++ [f] }).arbiter p

/-! ## Notices (R158, R194 to R196) -/

/-- The notice payload (Table 11-4). -/
def State.noticePayload (s : State) : Bytes :=
  [0xF3, 0x60, 1] ++ beBytes 8 s.factory.serial.toNat ++ beBytes 4 s.uptime.toNat ++
    beBytes 3 (bitsToNat s.slotLevels) ++ [if s.attention then 1 else 0]

/-- A notice to a destination with a given identification (R158). -/
def State.noticeFrame (s : State) (d : Destination) (ident : BitVec 16) : Bytes :=
  buildUdp
    { dstMac := d.mac, srcMac := s.factory.station, tagControl := vlanTag s.settings.lineVlan,
      srcIp := s.settings.lineAddress, dstIp := d.ip, srcPort := s.settings.noticePort,
      dstPort := d.port, ident := ident } s.noticePayload

/-- R195, first case: the waiting notice is rewritten in place and scanned again; blocked, it leaves the
queue. -/
def State.rewriteNotice (s : State) (d : Destination) (w : WaitingNotice) : State :=
  let f := s.noticeFrame d w.ident
  if guardPasses f then { s with noticeWaiting := some { w with frame := f } }
  else
    let s1 := s.guardBlocked
    { s1 with
      noticeWaiting := none
      portL := { s1.portL with ownQueue := s1.portL.ownQueue.filter (· ≠ .notice) } }

/-- R195, second case: a new notice is built in the waiting buffer and offered to port L. -/
def State.newNotice (s : State) (d : Destination) : State :=
  (State.offerOwn
    { s with noticeWaiting := some { ident := s.ident, frame := s.noticeFrame d s.ident }
             ident := s.ident + 1 } .L .notice).1

/-- EVU asks FRW for a notice, when notices are possible (R194, R195). -/
def State.askNotice (s : State) : State :=
  match s.noticeTarget with
  | none => s
  | some d =>
    match s.noticeWaiting with
    | some w => s.rewriteNotice d w
    | none => s.newNotice d

/-- R195: an ask whose block changes a slot level or ATTENTION leads to another ask in the same event. A block
can newly set GUARD_BLOCK and COUNTER_SATURATED only, so three asks are enough. -/
def askNotices : Nat → State → State
  | 0, s => s
  | n + 1, s => if s.levelsDiffer s.askNotice then askNotices n s.askNotice else s.askNotice

/-- The end of an event (R190, R192, R194): the level statuses take their conditions, and a notice is asked
for when a slot level or ATTENTION has changed since `before`, when notices have become possible, or
when the event is a start or an erase (`start`). -/
def conclude (start : Bool) (before s : State) : State :=
  if start || before.noticeTarget.isNone || before.levelsDiffer s.evalLevels then
    askNotices 3 s.evalLevels
  else s.evalLevels

/-! ## Exchanges (R107, R109, R110) -/

/-- The state with the exchange record of a till entry replaced. -/
def State.setExchange (s : State) (i : Fin 128) (x : Option Exchange) : State :=
  { s with tills := s.tills.set i { s.tills[i] with exchange := x } }

/-- The job an exchange record names (Table 5-2). -/
def Exchange.job (x : Exchange) : Option Nat := x.wrapJob <|> x.verifyJob

/-- R117: a waiting job is removed; its frame slot is freed. -/
def State.removeJob (s : State) (j : Job) : State :=
  let s1 := { s with waiting := s.waiting.filter fun k => k.id ≠ j.id }
  match j.work.frame with
  | none => s1
  | some f => s1.freeFrame f

/-- R107: an exchange closes. `jobRefs` is 1 when the close is that of the exchange's completing job, whose
reference is released with the exchange's; a waiting job is removed with its reference, and its entry
may go to a management job waiting in MGU; a running job is left detached. -/
def State.closeExchange (s : State) (i : Fin 128) (jobRefs : Nat) : State :=
  match s.tills[i].exchange with
  | none => s
  | some x =>
    let s1 := s.setExchange i none
    match s1.waiting.find? fun j => x.job = some j.id with
    | none => s1.releaseRefs x.slot x.bank (1 + jobRefs)
    | some j => ((s1.removeJob j).releaseRefs x.slot x.bank 2).admitWaiting

/-- The stand-in payload (Table 11-3); no sequence gives a zero-width echo. -/
def standInPayload (r : Reason) (q : Option Sequence) : Bytes :=
  match q with
  | none => [0xF3, 0x5E, 0, BitVec.ofNat 8 r.code]
  | some q => [0xF3, 0x5E, BitVec.ofNat 8 q.width] ++ beBytes q.width q.value ++
      [BitVec.ofNat 8 r.code]

/-- The headers of a frame to a till (R109, R156). -/
def State.tillHeaders (s : State) (i : Fin 128) (port : UdpPort) : UdpHeaders :=
  { dstMac := s.tills[i].mac, srcMac := s.factory.station,
    tagControl := vlanTag s.settings.tillVlan, srcIp := s.settings.serviceAddress,
    dstIp := s.tills[i].ip, srcPort := s.settings.servicePort, dstPort := port, ident := s.ident }

/-- R110, R157: the stand-in is built in a free buffer entry and offered to port T, or dropped when all 16 are
occupied. The lowest-numbered free entry is taken. -/
def State.buildStandIn (s : State) (i : Fin 128) (r : Reason) (q : Option Sequence)
    (port : UdpPort) : State :=
  match firstFree s.standIns with
  | none => s.bump .standInDrops
  | some e =>
    (State.offerOwn
      { s with
        standIns := s.standIns.set e (some (buildUdp (s.tillHeaders i port) (standInPayload r q)))
        ident := s.ident + 1 } .T (.standIn e)).1

/-- R109: the reason's counter gains 1; for every reason but REPLY_LOST, REFUSAL is latched and the till's
refusals gain 1. -/
def State.countStandIn (s : State) (i : Fin 128) (r : Reason) : State :=
  let s1 := s.bump (.standIns r)
  if r = .replyLost then s1 else (s1.latch .refusal).bumpStat i .refusals

/-- R109: EXC decides to answer a till with a stand-in. -/
def State.standIn (s : State) (i : Fin 128) (r : Reason) (q : Option Sequence) (port : UdpPort) :
    State :=
  (s.countStandIn i r).buildStandIn i r q port

/-- A close as LOST (R103, R104): REPLY_LOST is latched, the exchange closes, the till's replies lost gain 1,
and the till is answered with REPLY_LOST from the record. -/
def State.closeLost (s : State) (i : Fin 128) (x : Exchange) (jobRefs : Nat) : State :=
  (((s.latch .replyLost).closeExchange i jobRefs).bumpStat i .repliesLost).standIn i .replyLost
    (some x.seq) x.sourcePort

/-! ## Starts and the erase (R22, R23, R79, R82, R86, R131, R132, R165, R186, R187, R199) -/

/-- A slot after a warm start or a restart: STAGED and LIVE banks kept, DRAINING banks EMPTY, reference counts 0
(R82). -/
def KeyBank.afterStart (b : KeyBank) : KeyBank :=
  match b.state with
  | .empty | .draining => .cleared
  | .staged | .live => { b with refs := 0 }

/-- Both banks of a slot after a warm start or a restart (R82). -/
def KeySlot.afterStart (k : KeySlot) : KeySlot := { a := k.a.afterStart, b := k.b.afterStart }

/-- A till entry without its exchange record (R86). -/
def TillEntry.withoutExchange (t : TillEntry) : TillEntry := { t with exchange := none }

/-- A port after a start, with the link state given (Table 1-10). -/
def portAfterStart (link : Link) : PortState := { PortState.cold with link := link }

/-- The cipher engine, the frame store and the stand-in buffer emptied (Table 6-3, R86). -/
def State.clearEngine (s : State) : State :=
  { s with
    waiting := []
    lanes := Vector.replicate 4 none
    mgmtWaiting := none
    frames := Vector.replicate 64 []
    freeSlots := List.finRange 64 }

/-- What a warm start and a restart have in common: the working state is lost (R22, R82, R86, R131, R165,
R187, R199). -/
def State.loseWork (s : State) : State :=
  { s.clearEngine with
    portT := portAfterStart s.portT.link
    portL := portAfterStart s.portL.link
    tills := s.tills.map TillEntry.withoutExchange
    slots := s.slots.map KeySlot.afterStart
    load := .none
    standIns := Vector.replicate 16 none
    ident := 0
    mgu := .idle
    message := []
    response := []
    responseFrame := []
    context := none
    status := Vector.replicate 18 false
    noticeWaiting := none
    noticeSending := none }

/-- A warm start (Table 5-1 of the introduction): the working state is lost, both links are DOWN, uptime and
global counters are 0. -/
def State.warmStart (s : State) : State :=
  { s.loseWork with
    portT := .cold
    portL := .cold
    uptime := 0
    counters := Vector.replicate 33 0 }

/-- A cold start: every piece of state takes its cold value, the management keys are the factory keys and the
store is valid (R2). The factory record, the level of the erase line, the command queue and the source
of job identities are what they were. -/
def State.coldStart (s : State) : State :=
  { s.warmStart with
    storeValid := true
    rules := Vector.replicate 16 .cold
    locators := Vector.replicate 8 .cold
    tills := Vector.replicate 128 .cold
    slots := Vector.replicate 16 .cleared
    mgmtKeys := s.factory.keys
    lastRemote := 0
    lastLocal := 0
    settings := .cold
    destinations := Vector.replicate 4 none
    enables := Vector.replicate 18 false
    eventMap := Vector.replicate 18 none }

/-- R175, step 3, and R184: a restart with its response ended is taken. `before` is the state at the start of
the event, which still holds the message's context. -/
def State.restartDue (before s : State) : Bool :=
  before.mgu != .idle && s.mgu == .idle && before.context.elim false (·.restartPending)

/-- Whether an own-output entry names a frame slot. -/
def OwnEntry.namesSlot : OwnEntry → Bool
  | .wrapped _ | .forwarded _ => true
  | .standIn _ | .response | .notice | .arp _ => false

/-- R23: a port at an erase; entries that name a frame slot are removed, and a transmission of such a frame is
abandoned. -/
def PortState.afterErase (p : PortState) : PortState :=
  { p with
    ownQueue := p.ownQueue.filter fun e => !e.namesSlot
    sending := p.sending.filter fun t =>
      match t.kind with
      | .bridged => true
      | .own e => !e.namesSlot }

/-- R186: MGU's own part of an erase, by its state. -/
def State.eraseMessage (s : State) : State :=
  match s.mgu, s.context with
  | .authenticating, _ => s.rejectMessage
  | .executing, some c =>
    match c.job, s.itemAt with
    | some _, some item => s.answer item.kind .notExecuted []
    | _, _ => s
  | .tagging, some c => s.offerMgmt (.responseTag c.key)
  | _, _ => s

/-- The erase (R79, R80), at every block: banks EMPTY and load state NONE, exchanges closed silently (R108),
jobs ended and frame slots freed (R132), queue entries that named them removed (R23), factory keys and
no pending keys (R176, R178), MGU's message as R186 gives, ERASED latched (R199). -/
def State.eraseAll (s : State) : State :=
  let s1 : State := { s.clearEngine with
    slots := Vector.replicate 16 .cleared
    load := .none
    tills := s.tills.map TillEntry.withoutExchange
    portT := s.portT.afterErase
    portL := s.portL.afterErase
    mgmtKeys := s.factory.keys
    context := s.context.map fun c => { c with pendingKeys := none } }
  ((s1.eraseMessage.latch .erased).arbiter .T).arbiter .L

end Sys2Proof.Machine
end

