-- ==== Sys2Proof/Machine/Arrival.lean ====
section
/-! DEFINITION. What an arriving frame does once a port has accepted it: dispatch (R8, R9, R12, R13), ARP
answers (R16), bridging (R17), payment requests (R46, R47, R28, R29) and their admission (R87 to R92),
replies (R97 to R101) and management messages (R166 to R168). -/

namespace Sys2Proof.Machine

/-! ## Dispatch -/

/-- R8: a port setting matches a UDP port when they are equal and the setting is not 0. -/
def portMatches (setting port : UdpPort) : Bool := setting == port && setting != 0

/-- R8: a frame arriving on port `p` is addressed to the part. -/
def State.addressed (s : State) (p : PortId) (f : Bytes) : Bool :=
  etherDestination f == s.factory.station && etherType f == 0x0800 &&
    ipDestination f == s.ownAddress p && s.ownAddress p != 0

/-- R9: a frame arriving on port `p` is addressed to the part under bootstrap. -/
def State.bootstrap (s : State) (p : PortId) (f : Bytes) : Bool :=
  s.ownAddress p == 0 && etherDestination f == s.factory.station && etherType f == 0x0800 &&
    ipProtocol f == 17 && portMatches s.settings.managementPort (udpDestination f)

/-- R166: the origin of a message: remote on port L and under bootstrap, local on port T otherwise. -/
def originOf (p : PortId) (bootstrap : Bool) : Origin :=
  match p with
  | .L => .remote
  | .T => if bootstrap then .remote else .store

/-- R188, last row: while MGU is EXECUTING, a frame of the message's own origin is to a management port that an item of
the message has replaced. -/
def State.toReplaced (s : State) (o : Origin) (f : Bytes) : Bool :=
  s.mgu == .executing && s.context.any fun c =>
    c.origin == o && c.replacedPorts.any fun q => portMatches q (udpDestination f)

/-- The acceptance checks of R10 and, for protocol 17, R11. -/
def acceptsFrame (f : Bytes) : Bool := ipv4Accepts f && (ipProtocol f != 17 || udpAccepts f)

/-- R10: a frame is dropped as MALFORMED. -/
def State.dropMalformed (s : State) : State := (s.latch .malformed).bump .malformed

/-- R16: an ARP request takes a free ARP answer buffer of its port, or is dropped. -/
def State.arpArrive (s : State) (p : PortId) (f : Bytes) : State :=
  match firstFree (s.port p).arp with
  | none => s
  | some b =>
    (State.offerOwn
      (s.setPort p
        { s.port p with
          arp := (s.port p).arp.set b (some (arpAnswer s.factory.station (s.ownAddress p) f)) })
      p (.arp b)).1

/-- R17: the bridge decision on a frame that arrived on port `p`. -/
def State.bridgeDecision (s : State) (p : PortId) (f : Bytes) : State :=
  match s.settings.bridgeMode with
  | .closed => s.bump .bridgeDrops
  | .guarded => s.offerBridge (otherPort p) f

/-! ## Payment requests -/

/-- The first till entry with property `p` (at most one, for the lookups of R46 and R48, by R44). -/
def State.findTill (s : State) (p : TillEntry → Bool) : Option (Fin 128) :=
  (List.finRange 128).find? fun i => p s.tills[i]

/-- The deadline in milliseconds that a timeout code gives (R49). -/
def deadlineOf (code : Byte) : Nat := if code = 0 then 30000 else code.toNat * 1000

/-- R92: the exchange opens. The frame takes the frame slot `k` at the head of the free list, the bank assigns
its next counter and takes two references, the record is created, and the WRAP job enters the queue. -/
def State.openExchange (s : State) (c : Capture) (d : Destination) (b : BankId) (k : Fin 64)
    (rest : List (Fin 64)) (f : Bytes) : State :=
  let t := s.tills[c.till]
  let bank := s.bank t.slot b
  let x : Exchange :=
    { phase := .admitted, seq := c.seq, sourcePort := c.sourcePort, slot := t.slot, bank := b,
      generation := bank.generation, counter := bank.counter + 1,
      deadline := deadlineOf t.timeoutCode, expiredWhileVerifying := false,
      wrapJob := some s.nextJob, verifyJob := none }
  let target : JobTarget :=
    { till := c.till, slot := t.slot, bank := b, generation := bank.generation,
      counter := bank.counter + 1, tillNumber := t.number, frame := k }
  let s1 : State := { s with frames := s.frames.set k f, freeSlots := rest, nextJob := s.nextJob + 1 }
  let s2 := s1.setBank t.slot b { bank with counter := bank.counter + 1, refs := bank.refs + 2 }
  (s2.setExchange c.till (some x)).enterJob { id := s.nextJob, work := .wrap target c d }

/-- Steps 3 to 8 of admission (R90 to R92); `m` is the UDP payload length of the request `f`. -/
def State.admitNew (s : State) (cap : RequestCapture) (f : Bytes) (m : Nat) : State :=
  match cap with
  | .refused i _ reason q port => s.standIn i reason q port
  | .accepted c =>
    match s.destinations[c.route] with
    | none => s.standIn c.till .noRoute (some c.seq) c.sourcePort
    | some d =>
      if Config.wrapLimit < m + 24 + plainLength c then
        s.standIn c.till .oversize (some c.seq) c.sourcePort
      else
        match keyTest s.slots[(s.tills[c.till]).slot] with
        | .error r => s.standIn c.till r (some c.seq) c.sourcePort
        | .ok b =>
          match s.freeSlots with
          | [] => s.standIn c.till .busy (some c.seq) c.sourcePort
          | k :: rest =>
            if s.occupied < Config.queueEntries then s.openExchange c d b k rest f
            else s.standIn c.till .busy (some c.seq) c.sourcePort

/-- Admission (Table 5-3): a request with the open exchange's sequence is a duplicate (R88), one with another
sequence supersedes it (R89), and admission then goes on with step 3. -/
def State.admission (s : State) (cap : RequestCapture) (f : Bytes) (m : Nat) : State :=
  match s.tills[cap.till].exchange with
  | none => s.admitNew cap f m
  | some x =>
    if cap.seq = some x.seq then s.bump .duplicates
    else ((s.closeExchange cap.till 0).bump .superseded).admitNew cap f m

/-- A payment request: till lookup (R46, R47), classification (R28, R29), extraction and admission. -/
def State.paymentArrive (s : State) (f : Bytes) : State :=
  match s.findTill fun t => t.valid && t.ip == ipSource f with
  | none => (s.latch .unknownTill).bump .unknownTill
  | some i =>
    match classify s.rules (udpPayload f) with
    | none => (s.latch .noRule).bump .noRule
    | some r =>
      (s.bump .requestsRecognised).admission
        (captureRequest i r s.locators[r.locator] (udpPayload f) (udpSource f)) f
        (udpPayload f).length

/-! ## Replies -/

/-- R99: a late reply is dropped. -/
def State.lateReply (s : State) : State := (s.latch .lateReply).bump .lateReplies

/-- R98: the trailer names the record's slot, generation and counter. -/
def replyMatches (x : Exchange) (trailer : Bytes) : Bool :=
  fieldNat trailer 4 1 == x.slot.val && byteAt trailer 5 == x.generation &&
    fieldNat trailer 8 4 == x.counter

/-- R100: the reply is accepted. The frame takes the frame slot `k`, a reference is taken, the VERIFY job enters
the queue and the exchange becomes VERIFYING. -/
def State.acceptReply (s : State) (i : Fin 128) (x : Exchange) (k : Fin 64) (rest : List (Fin 64))
    (f : Bytes) : State :=
  let payload := udpPayload f
  let target : JobTarget :=
    { till := i, slot := x.slot, bank := x.bank, generation := x.generation, counter := x.counter,
      tillNumber := s.tills[i].number, frame := k }
  let s1 : State := { s with frames := s.frames.set k f, freeSlots := rest, nextJob := s.nextJob + 1 }
  ((s1.takeRefs x.slot x.bank 1).setExchange i
      (some { x with phase := .verifying, verifyJob := some s.nextJob })).enterJob
    { id := s.nextJob, work := .verify target (replyTrailer payload) (payload.length - 24) }

/-- R98 to R101: the reply is matched against the exchange record of entry `i`. -/
def State.matchReply (s : State) (i : Fin 128) (f : Bytes) : State :=
  match s.tills[i].exchange with
  | none => s.lateReply
  | some x =>
    match x.phase with
    | .admitted => s.lateReply
    | .verifying => s.bump .replyBusy
    | .awaiting =>
      if replyMatches x (replyTrailer (udpPayload f)) then
        match s.freeSlots with
        | [] => s.bump .replyBusy
        | k :: rest =>
          if s.occupied < Config.queueEntries then s.acceptReply i x k rest f
          else s.bump .replyBusy
      else s.lateReply

/-- R97 and R48: the reply trailer is tested and the till looked up by the trailer's till number; 0 and numbers
above 4095 match no entry. -/
def State.replyArrive (s : State) (f : Bytes) : State :=
  if replyFormOk (udpPayload f) then
    let number := fieldNat (replyTrailer (udpPayload f)) 6 2
    match s.findTill fun t =>
        t.valid && t.number == number && decide (1 ≤ number ∧ number ≤ Config.tillNumberMax) with
    | none => s.lateReply
    | some i => s.matchReply i f
  else s.dropMalformed

/-! ## Management messages -/

/-- R167: the key that verifies a message of an origin; none for the local origin without an LMK (test 6). -/
def MgmtKeys.verifying (k : MgmtKeys) : Origin → Option Key
  | .remote => some k.mtk
  | .store => k.lmk

/-- R166 to R168: a management message is taken in IDLE, tested for its form and its MGMT_TAG job offered; in any
other state it is dropped as busy. -/
def State.mgmtArrive (s : State) (p : PortId) (bootstrap : Bool) (f : Bytes) : State :=
  if s.mgu ≠ .idle then s.bump .mgmtBusy
  else
    let m := udpPayload f
    let origin := originOf p bootstrap
    match messageFormOk s.factory.serial m, s.mgmtKeys.verifying origin with
    | true, some key =>
      let c : Context :=
        { origin := origin, port := p, senderMac := etherSource f, senderIp := ipSource f,
          senderPort := udpSource f, answerIp := ipDestination f, answerPort := udpDestination f,
          tagControl := tagControlOf f, key := key, sequence := 0, nextItem := 1,
          pendingKeys := none, restartPending := false, replacedPorts := [], job := none }
      State.offerMgmt { s with mgu := .authenticating, message := m, context := some c } (.mgmtTag key)
    | _, _ => s.rejectMessage

/-! ## The arrival as a whole -/

/-- R188, last row: a frame addressed to the part under bootstrap (R9) but for its port, which is a management port that
an item of the message in hand has replaced. -/
def State.bootstrapReplaced (s : State) (p : PortId) (f : Bytes) : Bool :=
  s.ownAddress p == 0 && etherDestination f == s.factory.station && etherType f == 0x0800 &&
    acceptsFrame f && ipProtocol f == 17 && s.toReplaced .remote f

/-- A datagram addressed to the part that matches none of its ports (row 6 of Table 1-7, row 5 of Table 1-8): dropped as
MALFORMED, or as busy where it is to the old management port (R188, last row). DEDUCED: that row's second half, by
which another origin's message must match the new port, leaves the busy drop to the origin of the message in hand
(notes/assumptions/33.md). -/
def State.unmatched (s : State) (p : PortId) (f : Bytes) : State :=
  if s.toReplaced (originOf p false) f then s.bump .mgmtBusy else s.dropMalformed

/-- A frame addressed to the part that passed the acceptance checks (rows 3 to 6 of Table 1-7, rows 3 to 5 of
Table 1-8). -/
def State.deliver (s : State) (p : PortId) (f : Bytes) : State :=
  if ipProtocol f ≠ 17 then s.dropMalformed
  else if portMatches s.settings.managementPort (udpDestination f) then
    s.mgmtArrive p (s.bootstrap p f) f
  else
    match p with
    | .T =>
      if portMatches s.settings.servicePort (udpDestination f) then
        if vlanValue f = s.settings.tillVlan then s.paymentArrive f else s.bridgeDecision p f
      else s.unmatched p f
    | .L =>
      if portMatches s.settings.replyPort (udpDestination f) then s.replyArrive f
      else s.unmatched p f

/-- Dispatch of an arrival (R12, R13; R188, last row). -/
def State.arrive (s : State) (p : PortId) (f : Bytes) : State :=
  if isArpRequest s.factory.station (s.ownAddress p) f then s.arpArrive p f
  else if s.addressed p f || s.bootstrap p f then
    if acceptsFrame f then s.deliver p f else s.dropMalformed
  else if s.bootstrapReplaced p f then s.bump .mgmtBusy
  else s.bridgeDecision p f

end Sys2Proof.Machine
end

