-- ==== Sys2Proof/Machine/Ports.lean ====
section
/-! DEFINITION. The commands at the ports: LINK_UP, LINK_DOWN, FRAME_RECEIVED and TRANSMISSION_COMPLETE. -/

namespace Sys2Proof.Machine

/-- The end of an event in which a response may have ended: a restart that is due is taken after the rest of the
event (R175, R184), then the event unit acts. -/
def concludeResponse (before s : State) : State :=
  if before.restartDue s then conclude true before s.loseWork else conclude false before s

/-- R5: a link-up report on a DOWN port sets the link UP, and the arbiter serves any waiting frame; on a port
already UP it has no effect. -/
def execLinkUp (p : PortId) (s : State) : Host.Outcome State Fault Refusal :=
  if (s.port p).link = .up then .next s
  else .next (conclude false s ((s.setPort p { s.port p with link := .up }).arbiter p))

/-- R6: a port's link goes DOWN; its transmission is abandoned and both its sources are emptied, each frame's
buffer being released by its kind. -/
def State.linkLost (s : State) (p : PortId) : State :=
  let x := s.port p
  let s1 := s.setPort p { x with link := .down, sending := none, ownQueue := [], bridge := [] }
  let s2 := match x.sending with
    | none => s1
    | some t => s1.releaseAbandoned p t.kind
  x.bridge.foldl (fun st _ => st.bump .bridgeDrops) (x.ownQueue.foldl (fun st e => st.releaseEntry p e) s2)

/-- R6: a link-down report on an UP port; on a port already DOWN it has no effect. -/
def execLinkDown (p : PortId) (s : State) : Host.Outcome State Fault Refusal :=
  if (s.port p).link = .down then .next s
  else .next (concludeResponse s (s.linkLost p))

/-- The receive buffer of a port set (Table 1-3). -/
def State.setReceive (s : State) (p : PortId) (f : Option Bytes) : State :=
  s.setPort p { s.port p with receive := f }

/-- R3, R12 to R14: a received frame is dropped at the port, or held in the receive buffer while its arrival is
dispatched. A frame is not received while the port's link is DOWN. -/
def execFrameReceived (p : PortId) (bytes : Bytes) (s : State) : Host.Outcome State Fault Refusal :=
  if (s.port p).link = .down then .next s
  else if portAccepts bytes then
    let f := bytes.take (bytes.length - 4)
    .next (conclude false s (((s.setReceive p (some f)).arrive p f).setReceive p none))
  else .next (conclude false s (s.bump .portDrops))

/-- R21: the transmission in progress completes, its buffer is released and the arbiter acts again; while the
transmitter is IDLE nothing completes. -/
def execTransmissionComplete (p : PortId) (s : State) : Host.Outcome State Fault Refusal :=
  match (s.port p).sending with
  | none => .next s
  | some t =>
    .next (concludeResponse s
      (((s.setPort p { s.port p with sending := none }).releaseSent p t.kind).arbiter p))

end Sys2Proof.Machine
end

