-- ==== Sys2Proof/Machine/Jobs.lean ====
section
/-! DEFINITION. The commands at the cipher lanes: WRAP_COMPLETION, VERIFY_COMPLETION, MGMT_TAG_RESULT,
KEY_UNWRAP_RESULT, RESPONSE_TAG_RESULT, and MGU's RESPONSE_COMPLETION. -/

namespace Sys2Proof.Machine

/-! ## Payment jobs -/

/-- R96, R102: the result of a job that is no open exchange's current job is discarded; its frame slot is freed
and its reference released. -/
def State.discardJob (s : State) (t : JobTarget) : State :=
  (s.freeFrame t.frame).releaseRefs t.slot t.bank 1

/-- R153, R154: the wrapped request, built from the request in the job's frame slot. -/
def State.wrappedFrame (s : State) (t : JobTarget) (c : Capture) (d : Destination) (v : WrapValues) :
    Bytes :=
  buildUdp
    { dstMac := d.mac, srcMac := s.factory.station, tagControl := vlanTag s.settings.lineVlan,
      srcIp := s.settings.lineAddress, dstIp := d.ip, srcPort := s.settings.replyPort,
      dstPort := d.port, ident := s.ident }
    (wrappedPayload c v (udpPayload s.frames[t.frame]))

/-- R94: the wrapped request was taken; the exchange becomes AWAITING. -/
def State.wrapTaken (s : State) (t : JobTarget) (x : Exchange) : State :=
  (((s.setExchange t.till (some { x with phase := .awaiting, wrapJob := none })).releaseRefs
    x.slot x.bank 1).bump .wrapsSent).bumpStat t.till .wrapsSent

/-- R93 to R95: the current wrap job's result; the wrapped request is built in the frame slot and offered to
port L. -/
def State.sendWrapped (s : State) (t : JobTarget) (c : Capture) (d : Destination) (v : WrapValues)
    (x : Exchange) : State :=
  match State.offerOwn
      { s with frames := s.frames.set t.frame (s.wrappedFrame t c d v), ident := s.ident + 1 } .L
      (.wrapped t.frame) with
  | (s1, .taken) => s1.wrapTaken t x
  | (s1, .blocked) =>
    (s1.closeExchange t.till 1).standIn t.till .plainNumber (some x.seq) x.sourcePort

/-- R93: a completed WRAP job is its till's current wrap job, or is discarded. -/
def State.wrapDone (s : State) (id : Nat) (t : JobTarget) (c : Capture) (d : Destination)
    (v : WrapValues) : State :=
  match s.tills[t.till].exchange with
  | none => s.discardJob t
  | some x => if x.wrapJob = some id then s.sendWrapped t c d v x else s.discardJob t

/-- WRAP_COMPLETION (R93 to R96, R116); on a lane that runs no WRAP job none completes. -/
def execWrapCompletion (lane : Fin 4) (s : State) : Host.Outcome State Fault Refusal :=
  match s.lanes[lane] with
  | some (.wrap id t c d v) => .next (conclude false s ((s.finishLane lane).wrapDone id t c d v))
  | some (.verify _ _ _ _ _) | some (.mgmtTag _ _ _) | some (.keyUnwrap _ _ _ _ _)
  | some (.responseTag _ _ _) | none => .next s

/-- R156: the forwarded reply, built from the reply in the job's frame slot. -/
def State.forwardedFrame (s : State) (t : JobTarget) (messageLength : Nat) (x : Exchange) : Bytes :=
  buildUdp (s.tillHeaders t.till x.sourcePort)
    ((udpPayload s.frames[t.frame]).take messageLength)

/-- R103, pass: the reply is forwarded to the till and the exchange closes as DONE. -/
def State.forwardReply (s : State) (t : JobTarget) (messageLength : Nat) (x : Exchange) : State :=
  let s1 : State :=
    { s with
      frames := s.frames.set t.frame (s.forwardedFrame t messageLength x), ident := s.ident + 1 }
  ((s1.offerOwn .T (.forwarded t.frame)).1.closeExchange t.till 1).bump .repliesForwarded

/-- R103, fail: the exchange returns to AWAITING, or closes as LOST after an expiry. -/
def State.failReply (s : State) (t : JobTarget) (x : Exchange) : State :=
  let s1 := ((s.freeFrame t.frame).latch .tagFail).bump .tagFailures
  if x.expiredWhileVerifying then s1.closeLost t.till x 1
  else (s1.setExchange t.till (some { x with phase := .awaiting, verifyJob := none })).releaseRefs
    x.slot x.bank 1

/-- R102: a completed VERIFY job is its till's current verify job, or is discarded. -/
def State.verifyDone (s : State) (id : Nat) (t : JobTarget) (messageLength : Nat) (pass : Bool) :
    State :=
  match s.tills[t.till].exchange with
  | none => s.discardJob t
  | some x =>
    if x.verifyJob = some id then
      if pass then s.forwardReply t messageLength x else s.failReply t x
    else s.discardJob t

/-- VERIFY_COMPLETION (R102, R103, R116); on a lane that runs no VERIFY job none completes. -/
def execVerifyCompletion (lane : Fin 4) (s : State) : Host.Outcome State Fault Refusal :=
  match s.lanes[lane] with
  | some (.verify id t _ n v) => .next (conclude false s ((s.finishLane lane).verifyDone id t n v.pass))
  | some (.wrap _ _ _ _ _) | some (.mgmtTag _ _ _) | some (.keyUnwrap _ _ _ _ _)
  | some (.responseTag _ _ _) | none => .next s

/-! ## Management jobs -/

/-- The MGMT_TAG job on a lane, if one runs there: its result. -/
def Running.mgmtTagResult : Running → Option Bool
  | .mgmtTag _ _ pass => some pass
  | .wrap _ _ _ _ _ | .verify _ _ _ _ _ | .keyUnwrap _ _ _ _ _ | .responseTag _ _ _ => none

/-- The KEY_UNWRAP job on a lane, if one runs there: its keys as given, those recovered, and its result. -/
def Running.unwrapResult : Running → Option (List (Key × CheckValue) × List Key × Bool)
  | .keyUnwrap _ _ keys recovered pass => some (keys, recovered, pass)
  | .wrap _ _ _ _ _ | .verify _ _ _ _ _ | .mgmtTag _ _ _ | .responseTag _ _ _ => none

/-- The RESPONSE_TAG job on a lane, if one runs there: its tag. -/
def Running.responseTagResult : Running → Option Bytes
  | .responseTag _ _ tag => some tag
  | .wrap _ _ _ _ _ | .verify _ _ _ _ _ | .mgmtTag _ _ _ | .keyUnwrap _ _ _ _ _ => none

/-- The lane and the result of the one management job with a given kind of result (R113: at most one exists). -/
def State.mgmtResult {α : Type} (s : State) (r : Running → Option α) : Option (Fin 4 × α) :=
  (List.finRange 4).findSome? fun i =>
    match s.lanes[i] with
    | none => none
    | some job => (r job).map fun a => (i, a)

/-- The last accepted sequence of an origin (R170). -/
def State.lastAccepted (s : State) : Origin → Nat
  | .remote => s.lastRemote
  | .store => s.lastLocal

/-- The last accepted sequence of an origin set (R169). -/
def State.setLastAccepted (s : State) (o : Origin) (n : Nat) : State :=
  match o with
  | .remote => { s with lastRemote := n }
  | .store => { s with lastLocal := n }

/-- R169: the message is accepted; the response buffer takes the response header (R174). -/
def State.acceptMessage (s : State) (c : Context) : State :=
  (({ s.setLastAccepted c.origin (messageSequence s.message) with
      mgu := .executing
      response := s.message.take 16
      context := some { c with sequence := messageSequence s.message, nextItem := 1, job := none } }
    : State)).bump .mgmtAccepted

/-- R169: the result of the MGMT_TAG job at MGU in AUTHENTICATING. -/
def State.tagVerdict (s : State) (pass : Bool) : State :=
  match s.mgu, s.context with
  | .authenticating, some c =>
    if pass ∧ s.lastAccepted c.origin < messageSequence s.message then s.acceptMessage c
    else s.rejectMessage
  | _, _ => s

/-- MGMT_TAG_RESULT (R169); without a running MGMT_TAG job there is no result. -/
def execMgmtTagResult (s : State) : Host.Outcome State Fault Refusal :=
  match s.mgmtResult Running.mgmtTagResult with
  | none => .next s
  | some (lane, pass) => .next (conclude false s ((s.finishLane lane).tagVerdict pass))

/-- R70: the bank that a commit fills: the STAGED bank, or else the EMPTY one, A when both are EMPTY. -/
def KeySlot.stageTarget (k : KeySlot) : Option BankId :=
  if k.a.state = .staged then some .A
  else if k.b.state = .staged then some .B
  else if k.a.state = .empty then some .A
  else if k.b.state = .empty then some .B
  else none

/-- R70: the contents of a committed bank. -/
def stagedBank (generation : Byte) (code : Fin 8) (keys : List Key) (given : List (Key × CheckValue)) :
    KeyBank :=
  { state := .staged, generation := generation, ceilingCode := code, counter := 0,
    wrapKey := keys.getD 0 0, surKey := keys.getD 1 0,
    wrapCheck := (given.getD 0 (0, 0)).2, surCheck := (given.getD 1 (0, 0)).2, refs := 0 }

/-- R70: the stage is committed and the load state becomes NONE. -/
def State.commitStage (s : State) (i : Fin 16) (bank : KeyBank) : State :=
  match s.slots[i].stageTarget with
  | none => { s with load := .none }
  | some b => { s.setBank i b bank with load := .none }

/-- R69, R70: the KEY_UNWRAP result of STAGE_KEYS. -/
def State.stageVerdict (s : State) (kind : Byte) (given : List (Key × CheckValue)) (keys : List Key)
    (pass : Bool) : State :=
  match s.load with
  | .unwrapping i generation code =>
    if pass then (s.commitStage i (stagedBank generation code keys given)).answer kind .done []
    else State.answer { s with load := .none } kind .checkFail []
  | .none | .opened _ _ _ => s.answer kind .notExecuted []

/-- R177: the KEY_UNWRAP result of LOAD_MGMT_KEYS. -/
def State.loadVerdict (s : State) (kind : Byte) (keys : List Key) (pass : Bool) : State :=
  if pass then
    State.answer
      { s with
        context := s.context.map fun c => { c with pendingKeys := recoveredMgmtKeys keys } }
      kind .done []
  else s.answer kind .checkFail []

/-- R130: the KEY_UNWRAP result goes to the item in hand. -/
def State.unwrapVerdict (s : State) (given : List (Key × CheckValue)) (keys : List Key)
    (pass : Bool) : State :=
  match s.itemAt with
  | none => s
  | some item =>
    if item.kind = 17 then s.stageVerdict item.kind given keys pass
    else s.loadVerdict item.kind keys pass

/-- KEY_UNWRAP_RESULT (R69, R70, R130, R177); without a running KEY_UNWRAP job there is no result. -/
def execKeyUnwrapResult (s : State) : Host.Outcome State Fault Refusal :=
  match s.mgmtResult Running.unwrapResult with
  | none => .next s
  | some (lane, given, keys, pass) =>
    .next (conclude false s ((s.finishLane lane).unwrapVerdict given keys pass))

/-- R174: the response is complete; MGU enters TAGGING and offers its RESPONSE_TAG job. -/
def State.completeResponse (s : State) (key : Key) : State :=
  State.offerMgmt { s with mgu := .tagging } (.responseTag key)

/-- RESPONSE_COMPLETION (R174): in EXECUTING with a result for every item. -/
def execResponseCompletion (s : State) : Host.Outcome State Fault Refusal :=
  match s.mgu, s.context with
  | .executing, some c =>
    if c.job = none ∧ itemCount s.message < c.nextItem then
      .next (conclude false s (s.completeResponse c.key))
    else .next s
  | _, _ => .next s

/-- R174, R159: the response with its headers. -/
def State.buildResponse (s : State) (c : Context) (payload : Bytes) : Bytes :=
  buildUdp
    { dstMac := c.senderMac, srcMac := s.factory.station, tagControl := c.tagControl,
      srcIp := c.answerIp, dstIp := c.senderIp, srcPort := c.answerPort, dstPort := c.senderPort,
      ident := s.ident } payload

/-- R174: the tag is placed, the headers are built and the response is offered to the port of arrival. -/
def State.sendResponse (s : State) (c : Context) (tag : Bytes) : State :=
  (State.offerOwn
    { s with
      mgu := .answering
      response := s.response ++ tag
      responseFrame := s.buildResponse c (s.response ++ tag)
      ident := s.ident + 1
      context := some { c with job := none } } c.port .response).1

/-- The RESPONSE_TAG result at MGU in TAGGING. -/
def State.tagResponse (s : State) (tag : Bytes) : State :=
  match s.mgu, s.context with
  | .tagging, some c => s.sendResponse c tag
  | _, _ => s

/-- RESPONSE_TAG_RESULT (R159, R174, R175); without a running RESPONSE_TAG job there is no result. -/
def execResponseTagResult (s : State) : Host.Outcome State Fault Refusal :=
  match s.mgmtResult Running.responseTagResult with
  | none => .next s
  | some (lane, tag) => .next (concludeResponse s ((s.finishLane lane).tagResponse tag))

end Sys2Proof.Machine
end

