-- ==== Sys2Proof/Machine/Items.lean ====
section
/-! DEFINITION. The item commands. Each executes the item in hand when it is of the command's kind: permission,
form, then the item's own rule (R171); otherwise the event does not occur and nothing changes. -/

namespace Sys2Proof.Machine

/-! ## Executing an item (R171, R173, R179) -/

/-- The context and the item in hand: MGU is EXECUTING, no job of the message is under way, and `next item` names
an item whose kind has property `p`. -/
def State.itemInHand (s : State) (p : Nat → Bool) : Option (Context × Item) :=
  match s.mgu, s.context, s.itemAt with
  | .executing, some c, some item =>
    if c.job = none ∧ p item.kind.toNat = true then some (c, item) else none
  | _, _, _ => none

/-- Steps 1 and 2 of R171: NOT_PERMITTED, BAD_VALUE for an unknown kind or a wrong body length, or neither. -/
def State.refusalOf (s : State) (c : Context) (item : Item) : Option ResultCode :=
  if permitted c.origin s.settings.localFloor item then
    if bodyForm item.kind.toNat item.body = some true then none else some .badValue
  else some .notPermitted

/-- R179: an open stage does not outlive the item after its STAGE_OPEN. -/
def State.dropStage (s : State) : State :=
  match s.load with
  | .opened _ _ _ => { s with load := .none }
  | .none | .unwrapping _ _ _ => s

/-- One item event: `act` is the item's own rule on the state and the item in hand. `start` is true for an item
that is an erase (R199). -/
def itemEvent (start : Bool) (p : Nat → Bool) (act : State → Context → Item → State) (s : State) :
    Host.Outcome State Fault Refusal :=
  match s.itemInHand p with
  | none => .next s
  | some (c, item) =>
    match s.refusalOf c item with
    | some r => .next (conclude false s (s.dropStage.answer item.kind r []))
    | none => .next (conclude start s (act s c item))

/-- An item with no body in its result: DONE with its effect, or its refusal and no effect. -/
def writeItem (code : Nat) (rule : State → Bytes → Except ResultCode State) (s : State) :
    Host.Outcome State Fault Refusal :=
  itemEvent false (· == code)
    (fun s _ item =>
      match rule s.dropStage item.body with
      | .ok s1 => s1.answer item.kind .done []
      | .error r => s.dropStage.answer item.kind r []) s

/-- A read item: DONE with its body where the body fits, or its refusal (R172). -/
def readItem (code : Nat) (rule : State → Bytes → Except ResultCode Bytes) (s : State) :
    Host.Outcome State Fault Refusal :=
  itemEvent false (· == code)
    (fun s _ item =>
      match rule s.dropStage item.body with
      | .ok body => s.dropStage.answerRead item.kind body
      | .error r => s.dropStage.answer item.kind r []) s

/-- The index in byte 0 of a body, or BAD_INDEX. -/
def bodyIndex (n : Nat) (b : Bytes) : Except ResultCode (Fin n) :=
  match indexOf n (byteAt b 0) with
  | some i => .ok i
  | none => .error .badIndex

/-! ## Settings (R181, R182) -/

/-- READ_SETTINGS returns the record as it stands. -/
def execReadSettings (s : State) : Host.Outcome State Fault Refusal :=
  readItem 1 (fun s _ => .ok (settingsBytes s.settings)) s

/-- The context remembers the management port that an item of its message replaces: the model's own form of what the
last row of R188 needs. DEDUCED (notes/assumptions/33.md). -/
def Context.replacing (c : Context) (old new : UdpPort) : Context :=
  if old = new then c else { c with replacedPorts := old :: c.replacedPorts }

/-- R181: the settings are checked as a whole and replaced in one step. -/
def State.writeSettings (s : State) (b : Bytes) : Except ResultCode State :=
  match parseSettings b with
  | none => .error .badValue
  | some x =>
    .ok
      { s with
        settings := x
        context := s.context.map fun c => c.replacing s.settings.managementPort x.managementPort }

/-- WRITE_SETTINGS (R181). -/
def execWriteSettings (s : State) : Host.Outcome State Fault Refusal :=
  writeItem 2 State.writeSettings s

/-! ## Till table (R52 to R55) -/

/-- READ_TILL (R55). -/
def execReadTill (s : State) : Host.Outcome State Fault Refusal :=
  readItem 3 (fun s b => (bodyIndex 128 b).map fun (i : Fin 128) => tillBytes i s.tills[i]) s

/-- R52, check 3: another valid entry holds the address or the till number. -/
def State.tillTaken (s : State) (i : Fin 128) (f : TillFields) : Bool :=
  (List.finRange 128).any fun j =>
    decide (j ≠ i) && s.tills[j].valid && (s.tills[j].ip == f.ip || s.tills[j].number == f.number)

/-- R52, R53: the static fields written over an entry; its statistics are kept when it was valid with the same
till number, else zero. -/
def TillEntry.write (t : TillEntry) (f : TillFields) : TillEntry :=
  let t1 := if t.valid && t.number == f.number then t else t.zeroStats
  { t1 with
    valid := true, number := f.number, ip := f.ip, mac := f.mac, slot := f.slot,
    timeoutCode := f.timeoutCode }

/-- The state with a till entry replaced. -/
def State.setTill (s : State) (i : Fin 128) (t : TillEntry) : State :=
  { s with tills := s.tills.set i t }

/-- R52, R53: WRITE_TILL's checks, the silent close of the entry's exchange, and the write. -/
def State.writeTill (s : State) (b : Bytes) : Except ResultCode State :=
  match indexOf 128 (byteAt b 0) with
  | none => .error .badIndex
  | some i =>
    match parseTill b with
    | none => .error .badValue
    | some f =>
      if s.tillTaken i f then .error .duplicate
      else
        let s1 := s.closeExchange i 0
        .ok (s1.setTill i (s1.tills[i].write f))

/-- WRITE_TILL (R52). -/
def execWriteTill (s : State) : Host.Outcome State Fault Refusal := writeItem 4 State.writeTill s

/-- R54: the entry's exchange is closed silently and the entry takes its cold values. -/
def State.clearTill (s : State) (b : Bytes) : Except ResultCode State :=
  (bodyIndex 128 b).map fun (i : Fin 128) => (s.closeExchange i 0).setTill i .cold

/-- CLEAR_TILL (R54). -/
def execClearTill (s : State) : Host.Outcome State Fault Refusal := writeItem 5 State.clearTill s

/-! ## Rule Table and Locator Table (R39 to R42) -/

/-- READ_RULE (R40). -/
def execReadRule (s : State) : Host.Outcome State Fault Refusal :=
  readItem 6 (fun s b => (bodyIndex 16 b).map fun (i : Fin 16) => ruleBytes i s.rules[i]) s

/-- R39: the checks of WRITE_RULE and the replacement of the whole entry. -/
def State.writeRule (s : State) (b : Bytes) : Except ResultCode State :=
  match indexOf 16 (byteAt b 0) with
  | none => .error .badIndex
  | some i =>
    match parseRule b with
    | none => .error .badValue
    | some r =>
      if r.valid && !s.locators[r.locator].valid then .error .badValue
      else .ok { s with rules := s.rules.set i r }

/-- WRITE_RULE (R39). -/
def execWriteRule (s : State) : Host.Outcome State Fault Refusal := writeItem 7 State.writeRule s

/-- R40: the entry takes its cold value. -/
def State.clearRule (s : State) (b : Bytes) : Except ResultCode State :=
  (bodyIndex 16 b).map fun (i : Fin 16) => { s with rules := s.rules.set i .cold }

/-- CLEAR_RULE (R40). -/
def execClearRule (s : State) : Host.Outcome State Fault Refusal := writeItem 8 State.clearRule s

/-- READ_LOCATOR (R42). -/
def execReadLocator (s : State) : Host.Outcome State Fault Refusal :=
  readItem 9 (fun s b => (bodyIndex 8 b).map fun (i : Fin 8) => locatorBytes i s.locators[i]) s

/-- R42: a valid rule names the locator. -/
def State.locatorNamed (s : State) (i : Fin 8) : Bool :=
  s.rules.toList.any fun r => r.valid && r.locator == i

/-- R41: the checks of WRITE_LOCATOR and the replacement of the whole entry. -/
def State.writeLocator (s : State) (b : Bytes) : Except ResultCode State :=
  match indexOf 8 (byteAt b 0) with
  | none => .error .badIndex
  | some i =>
    match parseLocator b with
    | none => .error .badValue
    | some l =>
      if !l.valid && s.locatorNamed i then .error .inUse
      else .ok { s with locators := s.locators.set i l }

/-- WRITE_LOCATOR (R41). -/
def execWriteLocator (s : State) : Host.Outcome State Fault Refusal :=
  writeItem 10 State.writeLocator s

/-- R42: a locator that no valid rule names takes its cold value. -/
def State.clearLocator (s : State) (b : Bytes) : Except ResultCode State :=
  match indexOf 8 (byteAt b 0) with
  | none => .error .badIndex
  | some i =>
    if s.locatorNamed i then .error .inUse
    else .ok { s with locators := s.locators.set i .cold }

/-- CLEAR_LOCATOR (R42). -/
def execClearLocator (s : State) : Host.Outcome State Fault Refusal :=
  writeItem 11 State.clearLocator s

/-! ## Destinations (R183) -/

/-- READ_DESTINATION (R183). -/
def execReadDestination (s : State) : Host.Outcome State Fault Refusal :=
  readItem 12 (fun s b => (bodyIndex 4 b).map fun (i : Fin 4) => destinationBytes i s.destinations[i]) s

/-- R183: the record becomes set with the fields given. -/
def State.writeDestination (s : State) (b : Bytes) : Except ResultCode State :=
  (bodyIndex 4 b).map fun (i : Fin 4) =>
    { s with destinations := s.destinations.set i (some (parseDestination b)) }

/-- WRITE_DESTINATION (R183). -/
def execWriteDestination (s : State) : Host.Outcome State Fault Refusal :=
  writeItem 13 State.writeDestination s

/-- R183: the record becomes not set. -/
def State.clearDestination (s : State) (b : Bytes) : Except ResultCode State :=
  (bodyIndex 4 b).map fun (i : Fin 4) => { s with destinations := s.destinations.set i none }

/-- CLEAR_DESTINATION (R183). -/
def execClearDestination (s : State) : Host.Outcome State Fault Refusal :=
  writeItem 14 State.clearDestination s

/-! ## Key store (R67 to R75) -/

/-- READ_SLOT (R75). -/
def execReadSlot (s : State) : Host.Outcome State Fault Refusal :=
  readItem 15 (fun s b => (bodyIndex 16 b).map fun (i : Fin 16) => slotBytes i s.slots[i]) s

/-- The pair check (R67, R179): the next item of the message is STAGE_KEYS with the same first body byte. -/
def State.nextIsStageKeys (s : State) (c : Context) (slot : Byte) : Bool :=
  match (messageItems s.message)[c.nextItem]? with
  | none => false
  | some item => item.kind == 17 && !item.body.isEmpty && byteAt item.body 0 == slot

/-- The pair LIVE + DRAINING (Table 4-3). -/
def KeySlot.busy (k : KeySlot) : Bool :=
  (k.a.state == .live && k.b.state == .draining) || (k.a.state == .draining && k.b.state == .live)

/-- R67, check 5: a LIVE or DRAINING bank of the slot has the generation. -/
def KeySlot.uses (k : KeySlot) (generation : Byte) : Bool :=
  ((k.a.state == .live || k.a.state == .draining) && k.a.generation == generation) ||
    ((k.b.state == .live || k.b.state == .draining) && k.b.generation == generation)

/-- R67: STAGE_OPEN's checks, in order, and the opened load state. -/
def State.stageOpen (s : State) (c : Context) (b : Bytes) : Except ResultCode State :=
  match indexOf 16 (byteAt b 0) with
  | none => .error .badIndex
  | some i =>
    match indexOf 8 (byteAt b 2) with
    | none => .error .badValue
    | some code =>
      if byteAt b 1 = 0 then .error .badValue
      else if s.nextIsStageKeys c (byteAt b 0) = false then .error .pairBroken
      else if s.slots[i].busy then .error .slotBusy
      else if s.slots[i].uses (byteAt b 1) then .error .sameGeneration
      else .ok { s with load := .opened i (byteAt b 1) code }

/-- STAGE_OPEN (R67). -/
def execStageOpen (s : State) : Host.Outcome State Fault Refusal :=
  itemEvent false (· == 16)
    (fun s c item =>
      match s.dropStage.stageOpen c item.body with
      | .ok s1 => s1.answer item.kind .done []
      | .error r => s.dropStage.answer item.kind r []) s

/-- R68: the load state that STAGE_KEYS moves to, or its refusal. -/
def stageKeysCheck (load : LoadState) (b : Bytes) : Except ResultCode LoadState :=
  match indexOf 16 (byteAt b 0) with
  | none => .error .badIndex
  | some i =>
    match load with
    | .opened j generation code =>
      if i = j then .ok (.unwrapping j generation code) else .error .pairBroken
    | .none | .unwrapping _ _ _ => .error .pairBroken

/-- STAGE_KEYS (R68, R179): an open stage of the slot moves to UNWRAPPING and a KEY_UNWRAP job is offered; the
item has its result at the job's. -/
def execStageKeys (s : State) : Host.Outcome State Fault Refusal :=
  itemEvent false (· == 17)
    (fun s _ item =>
      match stageKeysCheck s.load item.body with
      | .ok load =>
        State.offerMgmt { s with load := load } (.keyUnwrap s.mgmtKeys.ktk (stageKeyList item.body))
      | .error r => s.dropStage.answer item.kind r []) s

/-- R72: the slot after SWITCH, if it has a STAGED bank. -/
def KeySlot.switch (k : KeySlot) : Option KeySlot :=
  if k.a.state = .staged then
    some { a := { k.a with state := .live }, b := if k.b.state = .live then k.b.giveUp else k.b }
  else if k.b.state = .staged then
    some { a := if k.a.state = .live then k.a.giveUp else k.a, b := { k.b with state := .live } }
  else none

/-- R72: SWITCH on the slot named. -/
def State.switchSlot (s : State) (b : Bytes) : Except ResultCode State :=
  match indexOf 16 (byteAt b 0) with
  | none => .error .badIndex
  | some i =>
    match s.slots[i].switch with
    | none => .error .nothingStaged
    | some k => .ok { s with slots := s.slots.set i k }

/-- SWITCH (R72). -/
def execSwitch (s : State) : Host.Outcome State Fault Refusal := writeItem 18 State.switchSlot s

/-- R73: RETIRE on the slot named. -/
def State.retireSlot (s : State) (b : Bytes) : Except ResultCode State :=
  match indexOf 16 (byteAt b 0) with
  | none => .error .badIndex
  | some i =>
    match s.slots[i].live with
    | none => .error .nothingLive
    | some x => if s.slots[i].busy then .error .slotBusy else .ok (s.setBank i x (s.bank i x).giveUp)

/-- RETIRE (R73). -/
def execRetire (s : State) : Host.Outcome State Fault Refusal := writeItem 19 State.retireSlot s

/-- A slot's STAGED bank, if it has one. -/
def KeySlot.staged (k : KeySlot) : Option BankId :=
  if k.a.state = .staged then some .A else if k.b.state = .staged then some .B else none

/-- R74: DISCARD_STAGE on the slot named. -/
def State.discardStage (s : State) (b : Bytes) : Except ResultCode State :=
  match indexOf 16 (byteAt b 0) with
  | none => .error .badIndex
  | some i =>
    match s.slots[i].staged with
    | none => .error .nothingStaged
    | some x => .ok (s.setBank i x .cleared)

/-- DISCARD_STAGE (R74). -/
def execDiscardStage (s : State) : Host.Outcome State Fault Refusal :=
  writeItem 20 State.discardStage s

/-! ## Events and counters (R191 to R193, R198) -/

/-- The READ_EVENTS body (R191, section 11.3). DESIGN CHOICE: byte 25 is 1 while a notice is waiting and else 0; the
manual gives the byte's place and not its values (notes/assumptions/34.md). Byte 24 is ATTENTION as Table 11-4
codes it. -/
def State.eventsBytes (s : State) : Bytes :=
  beBytes 3 (bitsToNat s.status) ++ beBytes 3 (bitsToNat s.enables) ++
    s.eventMap.toList.map optionByte ++
    [if s.attention then 1 else 0, if s.noticeWaiting.isSome then 1 else 0]

/-- READ_EVENTS (R191). -/
def execReadEvents (s : State) : Host.Outcome State Fault Refusal :=
  readItem 21 (fun s _ => .ok s.eventsBytes) s

/-- R193: the map is checked and replaced as a whole. -/
def State.writeEventMap (s : State) (b : Bytes) : Except ResultCode State :=
  match parseEventMap b with
  | none => .error .badValue
  | some m => if mapShares m then .error .slotShared else .ok { s with eventMap := m }

/-- WRITE_EVENT_MAP (R193). -/
def execWriteEventMap (s : State) : Host.Outcome State Fault Refusal :=
  writeItem 22 State.writeEventMap s

/-- WRITE_EVENT_ENABLES (R192): all 18 enables take the values given. -/
def execWriteEventEnables (s : State) : Host.Outcome State Fault Refusal :=
  writeItem 23 (fun s b => .ok { s with enables := sourceSet b }) s

/-- R191: the named statuses become clear; a level status whose condition holds is set again at the end of the
event. -/
def State.clearStatuses (s : State) (named : Vector Bool 18) : State :=
  { s with status := Vector.ofFn fun i => s.status[i] && !named[i] }

/-- CLEAR_EVENTS (R191). -/
def execClearEvents (s : State) : Host.Outcome State Fault Refusal :=
  writeItem 24 (fun s b => .ok (s.clearStatuses (sourceSet b))) s

/-- READ_COUNTERS (R198): the 33 counters in order of index. -/
def execReadCounters (s : State) : Host.Outcome State Fault Refusal :=
  readItem 25 (fun s _ => .ok (s.counters.toList.flatMap (beBytes 4))) s

/-- R198: every global counter and every per-till statistic becomes 0. -/
def State.clearCounters (s : State) : State :=
  { s with counters := Vector.replicate 33 0, tills := s.tills.map TillEntry.zeroStats }

/-- CLEAR_COUNTERS (R198). -/
def execClearCounters (s : State) : Host.Outcome State Fault Refusal :=
  writeItem 26 (fun s _ => .ok s.clearCounters) s

/-! ## Management keys, RESTART and ERASE (R177, R184, R185) -/

/-- LOAD_MGMT_KEYS (R177): a KEY_UNWRAP job is offered; the item has its result at the job's. -/
def execLoadMgmtKeys (s : State) : Host.Outcome State Fault Refusal :=
  itemEvent false (· == 27)
    (fun s _ item =>
      s.dropStage.offerMgmt (.keyUnwrap s.mgmtKeys.ktk (mgmtKeyList item.body))) s

/-- R184: RESTART is DONE, every item after it gets NOT_EXECUTED, restart pending is set and the response is
completed at once. -/
def State.restartItem (s : State) (c : Context) (item : Item) : State :=
  let rest := (messageItems s.message).drop c.nextItem
  let s1 := rest.foldl (fun st i => st.answer i.kind .notExecuted []) (s.answer item.kind .done [])
  State.completeResponse
    { s1 with context := s1.context.map fun c => { c with restartPending := true } } c.key

/-- RESTART (R184). -/
def execRestart (s : State) : Host.Outcome State Fault Refusal :=
  itemEvent false (· == 28) (fun s c item => s.dropStage.restartItem c item) s

/-- ERASE (R185): the erase is taken within the item's execution, and execution goes on. -/
def execErase (s : State) : Host.Outcome State Fault Refusal :=
  itemEvent true (· == 29) (fun s _ item => s.dropStage.eraseAll.answer item.kind .done []) s

/-- A kind that Table 11-6 does not list. -/
def unknownKind (kind : Nat) : Bool := kind == 0 || decide (29 < kind)

/-- UNKNOWN_ITEM_KIND (R171, R173, R202): BAD_VALUE, or NOT_PERMITTED from the local origin. -/
def execUnknownItemKind (s : State) : Host.Outcome State Fault Refusal :=
  itemEvent false unknownKind (fun s _ item => s.dropStage.answer item.kind .badValue []) s

end Sys2Proof.Machine
end

