-- ==== Sys2Proof/Machine/Starts.lean ====
section
/-! DEFINITION. The commands at the pins and the clock: POWER_ON_RESET, ERASE_LINE_ASSERTED,
ERASE_LINE_DEASSERTED, BATTERY_SUPPLY_LOST, UPTIME_TICK and DEADLINE_EXPIRY. -/

namespace Sys2Proof.Machine

/-- R2: the start kind that a power-on or the reset pin takes. -/
def State.powerStart (s : State) : State := if s.storeValid then s.warmStart else s.coldStart

/-- R2, R80: a cold or a warm start, with one erase at its end when the erase line is found asserted. -/
def execPowerOnReset (s : State) : Host.Outcome State Fault Refusal :=
  .next (conclude true s (if s.eraseLine then s.powerStart.eraseAll else s.powerStart))

/-- R80: the erase line changes to asserted and an erase is taken; while it stays asserted none is. -/
def execEraseLineAsserted (s : State) : Host.Outcome State Fault Refusal :=
  if s.eraseLine then .next s
  else .next (conclude true s (State.eraseAll { s with eraseLine := true }))

/-- R80: the erase line changes to deasserted. -/
def execEraseLineDeasserted (s : State) : Host.Outcome State Fault Refusal :=
  .next { s with eraseLine := false }

/-- R2: the retained store is not valid after its battery supply has been lost. -/
def execBatterySupplyLost (s : State) : Host.Outcome State Fault Refusal :=
  .next { s with storeValid := false }

/-- R85: one millisecond of an exchange's countdown. -/
def Exchange.tick (x : Exchange) : Exchange := { x with deadline := x.deadline - 1 }

/-- R1, R85: the uptime counter gains 1, returning to 0 after its maximum, and every running countdown decreases
by 1. -/
def execUptimeTick (s : State) : Host.Outcome State Fault Refusal :=
  .next
    { s with
      uptime := s.uptime + 1
      tills := s.tills.map fun t => { t with exchange := t.exchange.map Exchange.tick } }

/-- R85, R104, R105: the expiry of an exchange whose countdown is at 0. ADMITTED or AWAITING, it closes as LOST;
VERIFYING, expired-while-verifying is set, once. Without such an exchange no expiry is taken. -/
def execDeadlineExpiry (i : Fin 128) (s : State) : Host.Outcome State Fault Refusal :=
  match s.tills[i].exchange with
  | none => .next s
  | some x =>
    if x.deadline ≠ 0 then .next s
    else
      match x.phase with
      | .admitted | .awaiting => .next (conclude false s (s.closeLost i x 0))
      | .verifying => .next (s.setExchange i (some { x with expiredWhileVerifying := true }))

end Sys2Proof.Machine
end

