-- ==== Sys2Proof/Machine/Dispatch.lean ====
section
/-! DEFINITION. One arm for each command: the meaning that gives its effect on everything but the queue. -/

namespace Sys2Proof.Machine

def exec (i : Instr) (s : State) : Host.Outcome State Fault Refusal :=
  match i with
  | .powerOnReset => Sys2Proof.Machine.execPowerOnReset s
  | .eraseLineAsserted => Sys2Proof.Machine.execEraseLineAsserted s
  | .uptimeTick => Sys2Proof.Machine.execUptimeTick s
  | .deadlineExpiry till => Sys2Proof.Machine.execDeadlineExpiry till s
  | .linkUp port => Sys2Proof.Machine.execLinkUp port s
  | .linkDown port => Sys2Proof.Machine.execLinkDown port s
  | .frameReceived port bytes => Sys2Proof.Machine.execFrameReceived port bytes s
  | .transmissionComplete port => Sys2Proof.Machine.execTransmissionComplete port s
  | .wrapCompletion lane => Sys2Proof.Machine.execWrapCompletion lane s
  | .verifyCompletion lane => Sys2Proof.Machine.execVerifyCompletion lane s
  | .mgmtTagResult => Sys2Proof.Machine.execMgmtTagResult s
  | .keyUnwrapResult => Sys2Proof.Machine.execKeyUnwrapResult s
  | .responseCompletion => Sys2Proof.Machine.execResponseCompletion s
  | .responseTagResult => Sys2Proof.Machine.execResponseTagResult s
  | .readSettings => Sys2Proof.Machine.execReadSettings s
  | .writeSettings => Sys2Proof.Machine.execWriteSettings s
  | .readTill => Sys2Proof.Machine.execReadTill s
  | .writeTill => Sys2Proof.Machine.execWriteTill s
  | .clearTill => Sys2Proof.Machine.execClearTill s
  | .readRule => Sys2Proof.Machine.execReadRule s
  | .writeRule => Sys2Proof.Machine.execWriteRule s
  | .clearRule => Sys2Proof.Machine.execClearRule s
  | .readLocator => Sys2Proof.Machine.execReadLocator s
  | .writeLocator => Sys2Proof.Machine.execWriteLocator s
  | .clearLocator => Sys2Proof.Machine.execClearLocator s
  | .readDestination => Sys2Proof.Machine.execReadDestination s
  | .writeDestination => Sys2Proof.Machine.execWriteDestination s
  | .clearDestination => Sys2Proof.Machine.execClearDestination s
  | .readSlot => Sys2Proof.Machine.execReadSlot s
  | .stageOpen => Sys2Proof.Machine.execStageOpen s
  | .stageKeys => Sys2Proof.Machine.execStageKeys s
  | .switch => Sys2Proof.Machine.execSwitch s
  | .retire => Sys2Proof.Machine.execRetire s
  | .discardStage => Sys2Proof.Machine.execDiscardStage s
  | .readEvents => Sys2Proof.Machine.execReadEvents s
  | .writeEventMap => Sys2Proof.Machine.execWriteEventMap s
  | .writeEventEnables => Sys2Proof.Machine.execWriteEventEnables s
  | .clearEvents => Sys2Proof.Machine.execClearEvents s
  | .readCounters => Sys2Proof.Machine.execReadCounters s
  | .clearCounters => Sys2Proof.Machine.execClearCounters s
  | .loadMgmtKeys => Sys2Proof.Machine.execLoadMgmtKeys s
  | .restart => Sys2Proof.Machine.execRestart s
  | .erase => Sys2Proof.Machine.execErase s
  | .eraseLineDeasserted => Sys2Proof.Machine.execEraseLineDeasserted s
  | .batterySupplyLost => Sys2Proof.Machine.execBatterySupplyLost s
  | .unknownItemKind => Sys2Proof.Machine.execUnknownItemKind s

end Sys2Proof.Machine
end

