-- ==== Sys2Proof/Safety.lean ====
section
/-! DEFINITION. What counts as a safe run, in the terms the claims use: the laws the manual states of every state
of the part, and the words in which the effect of one command is stated (what the end of an event may
still change, an item in hand, its answer, a counter's gain). -/

namespace Sys2Proof.Machine

/-! ## Laws of the tables and the key store -/

/-- A slot pair of Table 4-3: at most one LIVE bank, at most one STAGED, and never two DRAINING (R58). -/
@[reducible] def KeySlot.Legal (k : KeySlot) : Prop :=
  k.a.state = k.b.state → k.a.state = .empty

/-- R58, for every slot. -/
@[reducible] def State.PairLaw (s : State) : Prop := ∀ i : Fin 16, s.slots[i].Legal

/-- The counter of a bank is 0 to its ceiling, and 0 while the bank is STAGED; every field of an EMPTY bank but the
reference count, which `State.RefLaw` bounds, holds its EMPTY value (Table 4-1, R57, R59, R64). -/
@[reducible] def KeyBank.Rationed (b : KeyBank) : Prop :=
  b.counter ≤ ceiling b.ceilingCode ∧ (b.state = .staged → b.counter = 0) ∧
    (b.state = .empty → b = { KeyBank.cleared with refs := b.refs })

/-- The rationing of every bank. -/
@[reducible] def State.RationLaw (s : State) : Prop :=
  ∀ i : Fin 16, s.slots[i].a.Rationed ∧ s.slots[i].b.Rationed

/-- R44: no two valid till entries share a till IP address or a till number. -/
@[reducible] def State.TillLaw (s : State) : Prop :=
  ∀ i j : Fin 128, i ≠ j → s.tills[i].valid = true → s.tills[j].valid = true →
    s.tills[i].ip ≠ s.tills[j].ip ∧ s.tills[i].number ≠ s.tills[j].number

/-- R43: an invalid entry holds the cold values and no exchange record; a valid one a till number in range. -/
@[reducible] def State.EntryLaw (s : State) : Prop :=
  ∀ i : Fin 128,
    (s.tills[i].valid = false → s.tills[i] = TillEntry.cold) ∧
      (s.tills[i].valid = true → 1 ≤ s.tills[i].number ∧ s.tills[i].number ≤ Config.tillNumberMax)

/-- Every valid rule names a valid locator (section 2.4, the remark after R42). -/
@[reducible] def State.RuleLaw (s : State) : Prop :=
  ∀ i : Fin 16, s.rules[i].valid = true → (s.locators[s.rules[i].locator]).valid = true

/-- R193: no two event sources are mapped to the same notice slot. -/
@[reducible] def State.MapLaw (s : State) : Prop :=
  ∀ a b : Fin 18, a ≠ b → s.eventMap[a] = s.eventMap[b] → s.eventMap[a] = none

/-- The ranges of the settings (Table 9-5). -/
@[reducible] def State.SettingsLaw (s : State) : Prop :=
  s.settings.tillVlan ≤ Config.vlanMax ∧ s.settings.lineVlan ≤ Config.vlanMax ∧
    s.settings.warnMargin ≤ 65535 ∧ s.settings.localFloor ≤ Config.floorMax

/-! ## Laws of the working state -/

/-- Table 5-1: the wrap job is present in ADMITTED alone, the verify job in VERIFYING alone, and the deadline is at
most 255,000 ms (R49, R85). -/
@[reducible] def Exchange.Formed (x : Exchange) : Prop :=
  (x.wrapJob.isSome = true ↔ x.phase = .admitted) ∧
    (x.verifyJob.isSome = true ↔ x.phase = .verifying) ∧ x.deadline ≤ 255000

/-- Every open exchange is formed as Table 5-1 gives. -/
@[reducible] def State.ExchangeLaw (s : State) : Prop :=
  ∀ i : Fin 128, ∀ x ∈ s.tills[i].exchange, x.Formed

/-- R111: waiting plus running jobs never exceed 64; and a lane is idle only when no job waits (R114). -/
@[reducible] def State.QueueLaw (s : State) : Prop :=
  s.occupied ≤ Config.queueEntries ∧
    ((∃ l : Fin 4, s.lanes[l] = none) → s.waiting = [])

/-- A port whose link is DOWN holds no outgoing work (R6, R7), and an UP port whose transmitter is IDLE has none
waiting (R20). -/
@[reducible] def PortState.Served (p : PortState) : Prop :=
  (p.link = .down ∨ p.sending = none → p.ownQueue = [] ∧ p.bridge = []) ∧
    (p.link = .down → p.sending = none)

/-- Both ports are served. -/
@[reducible] def State.PortLaw (s : State) : Prop := s.portT.Served ∧ s.portL.Served

/-- The frame slot an own-output entry names. -/
def OwnEntry.slot : OwnEntry → Option (Fin 64)
  | .wrapped i => some i
  | .forwarded i => some i
  | .standIn _ | .response | .notice | .arp _ => none

/-- The frame slot a running job holds (Table 6-1). -/
def Running.frame : Running → Option (Fin 64)
  | .wrap _ t _ _ _ => some t.frame
  | .verify _ t _ _ _ => some t.frame
  | .mgmtTag _ _ _ | .keyUnwrap _ _ _ _ _ | .responseTag _ _ _ => none

/-- The identity of a running job (R111). -/
def Running.id : Running → Nat
  | .wrap id _ _ _ _ => id
  | .verify id _ _ _ _ => id
  | .mgmtTag id _ _ => id
  | .keyUnwrap id _ _ _ _ => id
  | .responseTag id _ _ => id

/-- The frame slots a port holds: those its queue names and that of the frame being sent (Table 6-2). -/
def PortState.slotsHeld (p : PortState) : List (Fin 64) :=
  p.ownQueue.filterMap OwnEntry.slot ++
    (match p.sending with
     | some { kind := .own e, .. } => e.slot.toList
     | some { kind := .bridged, .. } | none => [])

/-- The frame slots the jobs hold, waiting and running (R111, Table 6-2). -/
def State.slotsOfJobs (s : State) : List (Fin 64) :=
  s.waiting.filterMap (fun j => j.work.frame) ++
    s.lanes.toList.filterMap (fun r => r.bind Running.frame)

/-- The identities of the jobs in the engine: waiting in the queue, running, or waiting in MGU (R111, R113). -/
def State.jobIds (s : State) : List Nat :=
  s.waiting.map (·.id) ++ s.lanes.toList.filterMap (fun r => r.map Running.id) ++
    s.mgmtWaiting.toList.map (·.id)

/-- R120: every frame slot is free or has exactly one holder; and R111: job identities are distinct (and below the
model's own counter of them); and R113: the job that waits in MGU is one of its own, which holds no slot. -/
@[reducible] def State.StoreLaw (s : State) : Prop :=
  (s.freeSlots ++ s.slotsOfJobs ++ s.portT.slotsHeld ++ s.portL.slotsHeld).Perm (List.finRange 64) ∧
    s.jobIds.Nodup ∧ (∀ n ∈ s.jobIds, n < s.nextJob) ∧ ∀ j ∈ s.mgmtWaiting, j.work.frame = none

/-- What a WRAP job carries from its exchange (Table 6-1). -/
def JobWork.wraps : JobWork → Option JobTarget
  | .wrap t _ _ => some t
  | .verify _ _ _ | .mgmtTag _ | .keyUnwrap _ _ | .responseTag _ => none

/-- What a VERIFY job carries from its exchange (Table 6-1). -/
def JobWork.verifies : JobWork → Option JobTarget
  | .verify t _ _ => some t
  | .wrap _ _ _ | .mgmtTag _ | .keyUnwrap _ _ | .responseTag _ => none

/-- What a running WRAP job carries from its exchange (Table 6-1). -/
def Running.wraps : Running → Option JobTarget
  | .wrap _ t _ _ _ => some t
  | .verify _ _ _ _ _ | .mgmtTag _ _ _ | .keyUnwrap _ _ _ _ _ | .responseTag _ _ _ => none

/-- What a running VERIFY job carries from its exchange (Table 6-1). -/
def Running.verifies : Running → Option JobTarget
  | .verify _ t _ _ _ => some t
  | .wrap _ _ _ _ _ | .mgmtTag _ _ _ | .keyUnwrap _ _ _ _ _ | .responseTag _ _ _ => none

/-- The jobs of one kind, waiting and running, each with its identity and what it carries. -/
def State.jobsOf (s : State) (waits : JobWork → Option JobTarget) (runs : Running → Option JobTarget) :
    List (Nat × JobTarget) :=
  s.waiting.filterMap (fun j => (waits j.work).map fun t => (j.id, t)) ++
    s.lanes.toList.filterMap fun r => r.bind fun r => (runs r).map fun t => (r.id, t)

/-- The WRAP jobs, waiting and running. -/
def State.wrapJobs (s : State) : List (Nat × JobTarget) := s.jobsOf JobWork.wraps Running.wraps

/-- The VERIFY jobs, waiting and running. -/
def State.verifyJobs (s : State) : List (Nat × JobTarget) := s.jobsOf JobWork.verifies Running.verifies

/-- The holders of a bank (R57): the open exchanges that captured it, and the WRAP and VERIFY jobs, waiting or
running, that hold it. -/
def State.holders (s : State) (k : Fin 16) (b : BankId) : Nat :=
  (s.tills.toList.countP fun e => e.exchange.any fun x => x.slot == k && x.bank == b) +
    (s.wrapJobs ++ s.verifyJobs).countP fun j => j.2.slot == k && j.2.bank == b

/-- What the job of the exchange `x` of till `i` carries, beside its frame slot (R92, R100). -/
def State.carried (s : State) (i : Fin 128) (x : Exchange) (frame : Fin 64) : JobTarget :=
  { till := i, slot := x.slot, bank := x.bank, generation := x.generation, counter := x.counter
    tillNumber := s.tills[i].number, frame := frame }

/-- R57: a bank's reference count is the number of its holders, 0 while the bank is EMPTY or STAGED and at least 1
while it is DRAINING. Table 5-1: the job that an open exchange names is in the engine and carries what the exchange
captured. -/
@[reducible] def State.RefLaw (s : State) : Prop :=
  (∀ (k : Fin 16) (b : BankId),
    (s.bank k b).refs = s.holders k b ∧
      ((s.bank k b).state = .empty ∨ (s.bank k b).state = .staged → (s.bank k b).refs = 0) ∧
      ((s.bank k b).state = .draining → 1 ≤ (s.bank k b).refs)) ∧
    ∀ i : Fin 128, ∀ x ∈ s.tills[i].exchange,
      (∀ n ∈ x.wrapJob, ∃ f, (n, s.carried i x f) ∈ s.wrapJobs) ∧
        ∀ n ∈ x.verifyJob, ∃ f, (n, s.carried i x f) ∈ s.verifyJobs

/-- R162: every frame waiting in one of port L's two sources, and the frame it is sending, passes the number guard. -/
@[reducible] def State.LineClear (s : State) : Prop :=
  (∀ f ∈ s.portL.bridge, guardPasses f = true) ∧
    (∀ e ∈ s.portL.ownQueue, guardPasses (s.heldFrame .L e) = true) ∧
    (∀ t ∈ s.portL.sending, guardPasses t.frame = true)

/-- The own-output entries a port holds: those waiting, and the one being sent (R19, R20). -/
def PortState.entries (p : PortState) : List OwnEntry :=
  p.ownQueue ++
    (match p.sending with
     | some { kind := .own e, .. } => [e]
     | some { kind := .bridged, .. } | none => [])

/-- Whether a kind of frame enters a port's own-output queue (Table 1-9). -/
def OwnEntry.enters : OwnEntry → PortId → Bool
  | .wrapped _, .L => true
  | .wrapped _, .T => false
  | .forwarded _, .T => true
  | .forwarded _, .L => false
  | .standIn _, .T => true
  | .standIn _, .L => false
  | .notice, .L => true
  | .notice, .T => false
  | .response, _ => true
  | .arp _, _ => true

/-- An entry and its buffer (Table 1-9): each queue holds the kinds the table gives it; the one response waits or is
being sent exactly in ANSWERING (R174, R175); an ARP answer and a stand-in each occupy their buffer, which has no
second entry (R16, R110); a notice waits in port L's queue exactly while EVU has one waiting, and EVU's sending
buffer holds exactly the notice that port L's transmitter is sending (R195). The frame slots are `State.StoreLaw`'s. -/
@[reducible] def State.BufferLaw (s : State) : Prop :=
  (∀ p : PortId, ∀ e ∈ (s.port p).entries, e.enters p = true) ∧
    (s.portT.entries ++ s.portL.entries).count .response = (if s.mgu = .answering then 1 else 0) ∧
    (∀ (p : PortId) (b : Fin 2), (s.port p).entries.count (.arp b) ≤ 1 ∧
      (OwnEntry.arp b ∈ (s.port p).entries → ((s.port p).arp[b]).isSome = true)) ∧
    (∀ k : Fin 16, s.portT.entries.count (.standIn k) ≤ 1 ∧
      (OwnEntry.standIn k ∈ s.portT.entries → (s.standIns[k]).isSome = true)) ∧
    s.portL.ownQueue.count .notice = (if s.noticeWaiting.isSome then 1 else 0) ∧
    s.noticeSending =
      (match s.portL.sending with
       | some { kind := .own .notice, frame := f, .. } => some f
       | some _ | none => none)

/-- R190: every level status is set exactly while its condition holds. -/
@[reducible] def State.LevelLaw (s : State) : Prop :=
  ∀ e ∈ levelSources, s.condition e = some (s.statusOf e)

/-! ## One command's effect -/

/-- R197, R51: a counter that gains 1 and stays at its maximum. -/
def gained (max n : Nat) : Nat := if n < max then n + 1 else n

/-- Port `x` became `y` and at most notices were queued, rewritten, removed or taken by its IDLE transmitter. -/
@[reducible] def PortState.KeptBesideNotices (x y : PortState) : Prop :=
  y.bridge = x.bridge ∧ y.ownQueue.filter (· ≠ .notice) = x.ownQueue.filter (· ≠ .notice) ∧
    (y.sending = x.sending ∧ y.lastServed = x.lastServed ∨
      x.sending = none ∧ y.lastServed = .own ∧ ∃ w, y.sending = some w ∧ w.kind = .own .notice)

/-- The state `t` is `a` after the end of an event: the level statuses have taken their conditions (R190), and a
notice may have been asked for (R194), which can move port L's queue and transmitter by that notice
alone, EVU's notice buffers and the identification counter, and, when a notice is blocked, latch
GUARD_BLOCK and count it. Everything else is as in `a`. (That the ask comes last: log entry 14.) -/
structure SettlesTo (a t : State) : Prop where
  others : t =
    { a with
      status := t.status, counters := t.counters, ident := t.ident, portL := t.portL,
      noticeWaiting := t.noticeWaiting, noticeSending := t.noticeSending }
  counters : ∀ c : Fin 33, c ≠ Counter.guardBlocks.idx → t.counters[c] = a.counters[c]
  latched : ∀ e : Fin 18, e.val < 11 → a.status[e] = true → t.status[e] = true
  unlatched : ∀ e : Fin 18, e.val < 11 → e ≠ EventSource.guardBlock.idx →
    e ≠ EventSource.counterSaturated.idx → t.status[e] = a.status[e]
  levels : t.LevelLaw
  portL : t.portL.link = a.portL.link ∧ t.portL.arp = a.portL.arp ∧ t.portL.receive = a.portL.receive
  line : a.portL.Served → t.portL.Served ∧ a.portL.KeptBesideNotices t.portL
  quiet : a.noticeTarget = none →
    t = { a with status := t.status } ∧ ∀ e : Fin 18, e.val < 11 → t.status[e] = a.status[e]

/-- A bank over a warm start or a restart (R82): STAGED and LIVE banks are kept without references, any other bank is
EMPTY. -/
@[reducible] def KeyBank.KeptOverStart (b c : KeyBank) : Prop :=
  (b.state = .staged ∨ b.state = .live → c = { b with refs := 0 }) ∧
    (b.state = .empty ∨ b.state = .draining → c = KeyBank.cleared)

/-- The state `a` without the working state of any block, with the link states and key slots given (Table 1-10, R22,
R86, R131, R165, R187, R199). -/
def State.withoutWork (a : State) (linkT linkL : Link) (slots : Vector KeySlot 16) : State :=
  { a with
    portT := { PortState.cold with link := linkT }
    portL := { PortState.cold with link := linkL }
    tills := a.tills.map fun e => { e with exchange := none }
    slots := slots
    load := .none
    waiting := []
    lanes := Vector.replicate 4 none
    mgmtWaiting := none
    frames := Vector.replicate 64 []
    freeSlots := List.finRange 64
    standIns := Vector.replicate 16 none
    ident := 0
    mgu := .idle
    message := []
    response := []
    responseFrame := []
    context := none
    status := Vector.replicate 18 false
    noticeWaiting := none
    noticeSending := none }

/-- What a warm start and a restart have in common, from `a`: the working state is lost, the banks are kept as R82
gives, and everything else is as in `a`. -/
structure LosesWork (a t : State) (linkT linkL : Link) : Prop where
  settles : SettlesTo (a.withoutWork linkT linkL t.slots) t
  banks : ∀ (k : Fin 16) (b : BankId), (a.bank k b).KeptOverStart (t.bank k b)

/-- What an erase does to every block but MGU and EVU (R23, R45, R71, R79, R86, R132) and to the management keys (R176,
R178). -/
def State.erasedStore (s : State) : State :=
  let port (x : PortState) : PortState :=
    { x with
      ownQueue := x.ownQueue.filter fun e => e.slot.isNone
      sending := x.sending.filter fun w =>
        match w.kind with
        | .bridged => true
        | .own e => e.slot.isNone }
  { s with
    slots := Vector.replicate 16 { a := KeyBank.cleared, b := KeyBank.cleared }
    load := .none
    tills := s.tills.map fun e => { e with exchange := none }
    waiting := []
    lanes := Vector.replicate 4 none
    mgmtWaiting := none
    frames := Vector.replicate 64 []
    freeSlots := List.finRange 64
    portT := port s.portT
    portL := port s.portL
    mgmtKeys := { mtk := s.factory.mtk, ktk := s.factory.ktk, lmk := none }
    context := s.context.map fun c => { c with pendingKeys := none } }

/-- The end of an erase: ERASED is latched (R199) and both transmitters' arbiters act again (R23). -/
def State.erasedEnd (s : State) : State := ((s.latch .erased).arbiter .T).arbiter .L

/-- An item is in hand: MGU is EXECUTING with context `c`, no job of the message is under way, and `next item`
names `item` (R171). -/
@[reducible] def State.InHand (s : State) (c : Context) (item : Item) : Prop :=
  s.mgu = .executing ∧ s.context = some c ∧ c.job = none ∧ s.itemAt = some item

/-- The load state after an item that does not open or move a stage (R179). -/
def LoadState.dropped : LoadState → LoadState
  | .opened _ _ _ => .none
  | .none => .none
  | .unwrapping slot generation code => .unwrapping slot generation code

/-- The state in which the item in hand has its result: the entry is appended (section 11.3), `next item` has
advanced, and an open stage is dropped (R171, R179). -/
def State.answered (s : State) (c : Context) (kind : Byte) (r : ResultCode) (body : Bytes) : State :=
  { s with
    load := s.load.dropped
    response := s.response ++ ([kind, r.code] ++ beBytes 2 body.length ++ body)
    context := some { c with nextItem := c.nextItem + 1, job := none } }

/-- R172: a body fits beside 4 bytes for every item still to execute and the 8-byte tag. -/
@[reducible] def State.Fits (s : State) (c : Context) (body : Bytes) : Prop :=
  s.response.length + (4 + body.length) + 4 * (itemCount s.message - c.nextItem) + 8 ≤ 1472

/-! ## Arrivals -/

/-- The frame a port holds of what it received: without the frame check sequence (R3). -/
def receivedFrame (wire : Bytes) : Bytes := wire.take (wire.length - 4)

/-- A frame on port T reaches the payment request path (rows 1 to 4 of Table 1-7). -/
@[reducible] def State.PaymentAt (s : State) (f : Bytes) : Prop :=
  isArpRequest s.factory.station s.settings.serviceAddress f = false ∧ s.addressed .T f = true ∧
    acceptsFrame f = true ∧ ipProtocol f = 17 ∧
    portMatches s.settings.managementPort (udpDestination f) = false ∧
    portMatches s.settings.servicePort (udpDestination f) = true ∧
    vlanValue f = s.settings.tillVlan

/-- A frame on port L reaches the reply path (rows 1 to 4 of Table 1-8). -/
@[reducible] def State.ReplyAt (s : State) (f : Bytes) : Prop :=
  isArpRequest s.factory.station s.settings.lineAddress f = false ∧ s.addressed .L f = true ∧
    acceptsFrame f = true ∧ ipProtocol f = 17 ∧
    portMatches s.settings.managementPort (udpDestination f) = false ∧
    portMatches s.settings.replyPort (udpDestination f) = true

/-- A frame on port `p` reaches the management path (rows 1 to 3 of Tables 1-7 and 1-8). -/
@[reducible] def State.ManagementAt (s : State) (p : PortId) (f : Bytes) : Prop :=
  isArpRequest s.factory.station (s.ownAddress p) f = false ∧
    (s.addressed p f = true ∨ s.bootstrap p f = true) ∧ acceptsFrame f = true ∧
    ipProtocol f = 17 ∧ portMatches s.settings.managementPort (udpDestination f) = true

/-- R188, last row: an accepted datagram on port `p` reaches the part at a management port that an item of the message in
hand has replaced, while MGU is EXECUTING; it is of that message's origin, and no port of the part as it stands
takes it. -/
def State.replacedAt (s : State) (p : PortId) (f : Bytes) : Bool :=
  !isArpRequest s.factory.station (s.ownAddress p) f && acceptsFrame f && ipProtocol f == 17 &&
    !portMatches s.settings.managementPort (udpDestination f) && s.mgu == .executing &&
    s.context.any fun c => c.replacedPorts.any (fun q => portMatches q (udpDestination f)) &&
      match p, c.origin with
      | .T, .store => s.addressed .T f && !portMatches s.settings.servicePort (udpDestination f)
      | .T, .remote => s.ownAddress .T == 0 && etherDestination f == s.factory.station && etherType f == 0x0800
      | .L, .store => false
      | .L, .remote =>
        s.addressed .L f && !portMatches s.settings.replyPort (udpDestination f) ||
          s.ownAddress .L == 0 && etherDestination f == s.factory.station && etherType f == 0x0800

/-- The one valid till entry with the frame's IPv4 source address (R46). -/
@[reducible] def State.TillFound (s : State) (f : Bytes) (i : Fin 128) : Prop :=
  s.tills[i].valid = true ∧ s.tills[i].ip = ipSource f ∧
    ∀ j : Fin 128, s.tills[j].valid = true → s.tills[j].ip = ipSource f → j = i

/-- A valid rule all of whose probes match a payload (R27, R28). -/
@[reducible] def Rule.Takes (r : Rule) (m : Bytes) : Prop :=
  r.valid = true ∧ ∀ p ∈ r.probes,
    p.offset < m.length ∧ byteAt m p.offset &&& p.mask = p.value &&& p.mask

/-- The first rule, in order of index, that takes a payload (R28). -/
@[reducible] def State.RuleFound (s : State) (m : Bytes) (r : Fin 16) : Prop :=
  s.rules[r].Takes m ∧ ∀ j : Fin 16, j < r → ¬ s.rules[j].Takes m

/-- The frame `f` arrives on port `p`: the link is UP and the port does not drop what it received (R3). -/
@[reducible] def State.Arrives (s : State) (p : PortId) (wire f : Bytes) : Prop :=
  (s.port p).link = .up ∧ portAccepts wire = true ∧ f = receivedFrame wire

/-- A payment request of till `i` arrives, classified by rule `r` and captured as `cap` (R12, R28, R37, R38, R46). -/
@[reducible] def State.RequestAt (s : State) (wire f : Bytes) (i : Fin 128) (r : Fin 16) (cap : RequestCapture) :
    Prop :=
  s.Arrives .T wire f ∧ s.PaymentAt f ∧ s.TillFound f i ∧ s.RuleFound (udpPayload f) r ∧
    captureRequest i s.rules[r] s.locators[s.rules[r].locator] (udpPayload f) (udpSource f) = cap

/-- The state at step 3 of the admission of a request that is no duplicate: it has been recognised (R28), and an open
exchange of its till, which holds another sequence, has been superseded (R89). -/
def State.atStep3 (s : State) (i : Fin 128) : State :=
  match s.tills[i].exchange with
  | none => (s.setReceive .T none).bump .requestsRecognised
  | some _ => (((s.setReceive .T none).bump .requestsRecognised).closeExchange i 0).bump .superseded

/-- A reply arrives whose trailer is well formed and names the till number of the valid entry `i` (R48, R97). -/
@[reducible] def State.ReplyFor (s : State) (wire f : Bytes) (i : Fin 128) : Prop :=
  s.Arrives .L wire f ∧ s.ReplyAt f ∧ replyFormOk (udpPayload f) = true ∧
    s.tills[i].valid = true ∧ s.tills[i].number = fieldNat (replyTrailer (udpPayload f)) 6 2 ∧
    1 ≤ s.tills[i].number ∧ s.tills[i].number ≤ Config.tillNumberMax ∧
    ∀ j : Fin 128, s.tills[j].valid = true → s.tills[j].number = s.tills[i].number → j = i

/-- A frame on port `p`, not busy by the last row of R188, reaches the bridge decision: it is "any other frame" (row 7 of Table 1-7, row 6 of Table 1-8),
or a payment request outside the till VLAN (row 5 of Table 1-7). -/
@[reducible] def State.BridgedAt (s : State) (p : PortId) (f : Bytes) : Prop :=
  isArpRequest s.factory.station (s.ownAddress p) f = false ∧ s.replacedAt p f = false ∧
    (s.addressed p f = false ∧ s.bootstrap p f = false ∨
      p = .T ∧ s.addressed .T f = true ∧ acceptsFrame f = true ∧ ipProtocol f = 17 ∧
        portMatches s.settings.managementPort (udpDestination f) = false ∧
        portMatches s.settings.servicePort (udpDestination f) = true ∧
        vlanValue f ≠ s.settings.tillVlan)

/-- A frame on port `p` is dropped as MALFORMED: rows 2 and 6 of Table 1-7, rows 2 and 5 of Table 1-8, and a reply
whose trailer is not well formed (R97); one busy by the last row of R188 is not. -/
@[reducible] def State.MalformedAt (s : State) (p : PortId) (f : Bytes) : Prop :=
  isArpRequest s.factory.station (s.ownAddress p) f = false ∧ s.replacedAt p f = false ∧
    (s.addressed p f = true ∨ s.bootstrap p f = true) ∧
    (acceptsFrame f = false ∨ ipProtocol f ≠ 17 ∨
      portMatches s.settings.managementPort (udpDestination f) = false ∧
        match p with
        | .T => portMatches s.settings.servicePort (udpDestination f) = false
        | .L => portMatches s.settings.replyPort (udpDestination f) = false ∨
            replyFormOk (udpPayload f) = false)

/-- The source port a capture holds (R37, R38). -/
def RequestCapture.port : RequestCapture → UdpPort
  | .refused _ _ _ _ port => port
  | .accepted c => c.sourcePort

/-- Steps 3 to 7 of the admission of a request of `m` payload bytes refuse it for `reason` (R90, R91). -/
def State.RefusesFor (a : State) (i : Fin 128) (m : Nat) : RequestCapture → Reason → Prop
  | .refused _ _ r _ _, reason => reason = r
  | .accepted c, reason =>
    let k := a.tills[i].slot
    a.destinations[c.route] = none ∧ reason = .noRoute ∨
      a.destinations[c.route] ≠ none ∧
        (1472 < m + 24 + plainLength c ∧ reason = .oversize ∨
          m + 24 + plainLength c ≤ 1472 ∧
            ((a.bank k .A).state ≠ .live ∧ (a.bank k .B).state ≠ .live ∧ reason = .noKey ∨
              ∃ b : BankId, (a.bank k b).state = .live ∧
                (ceiling (a.bank k b).ceilingCode ≤ (a.bank k b).counter ∧ reason = .keySpent ∨
                  (a.bank k b).counter < ceiling (a.bank k b).ceilingCode ∧
                    (a.freeSlots = [] ∨ 64 ≤ a.occupied) ∧ reason = .busy)))

/-! ## Jobs -/

/-- MGU's job `w` offered in state `a`, whose context is `c` (R113): it takes the next identity, the context names it,
and it enters the queue, or waits in MGU while all 64 entries are occupied. (The numbers: log entry 9.) -/
def State.withMgmtJob (a : State) (c : Context) (w : JobWork) : State :=
  let named := { a with nextJob := a.nextJob + 1, context := some { c with job := some a.nextJob } }
  if a.occupied < 64 then named.enterJob { id := a.nextJob, work := w }
  else { named with mgmtWaiting := some { id := a.nextJob, work := w } }

/-! ## Constructions, as Chapter 6 and Table 11-8 state them -/

/-- The block of R122 for a purpose byte `p`. -/
def JobTarget.derivation (t : JobTarget) (p : Byte) : Block :=
  blockOfBytes
    ([p, BitVec.ofNat 8 t.slot.val, t.generation, 0] ++ beBytes 2 t.tillNumber ++ beBytes 4 t.counter ++
      List.replicate 6 0)

/-- Byte `q` of digits in an encoding: 30h more than the digit, or two digits with the pad Fh after an odd last one
(R123, R143, R144). -/
def digitByte (encoding : Encoding) (ds : List Digit) (q : Nat) : Byte :=
  let d (n : Nat) : Nat := (ds.map (·.val)).getD n 15
  match encoding with
  | .ascii => BitVec.ofNat 8 (0x30 + d q)
  | .packed => BitVec.ofNat 8 (16 * d (2 * q) + d (2 * q + 1))

/-- The card plaintext P of R123. -/
def Capture.plaintext (c : Capture) : Bytes :=
  match c.card with
  | none => []
  | some k => (List.range ((k.digits.length + 1) / 2)).map (digitByte .packed k.digits) ++ k.companion

/-- The cipher text C of R124: byte `n` of P against byte `n mod 16` of the block of counter `n / 16`. -/
def JobTarget.enciphers (t : JobTarget) (key : Key) (plain : Bytes) : Bytes :=
  plain.mapIdx fun n b =>
    let block : Block :=
      blockOfBytes
        ([3, 0, 0, 0] ++ beBytes 2 t.tillNumber ++ beBytes 4 t.counter ++
          [0, 0, 0, 0, 0, BitVec.ofNat 8 (n / 16)])
    b ^^^ byteAt (blockBytes (cipherE key block)) (n % 16)

/-- The chained tag of R125 under `key`, with header block `h`, over `x`. -/
def tagOver (key : Key) (h x : Bytes) : Bytes :=
  let block (j : Nat) : Block := blockOfBytes (((x ++ List.replicate 15 0).drop (16 * j)).take 16)
  let y := (List.range ((x.length + 15) / 16)).foldl (fun y j => cipherE key (y ^^^ block j))
    (cipherE key (blockOfBytes h))
  (blockBytes (cipherE key (y ^^^ BitVec.ofNat 128 x.length))).take 8

/-- The rewritten message of R126: the fill byte over the companion bytes, the surrogate `ds` over the PAN digit bytes,
and every other byte as the till sent it. -/
def Capture.rewritten (c : Capture) (ds : List Digit) (m : Bytes) : Bytes :=
  match c.card with
  | none => m
  | some k =>
    let width := match k.encoding with
      | .ascii => ds.length
      | .packed => (ds.length + 1) / 2
    m.mapIdx fun n b =>
      if k.companionOffset ≤ n ∧ n < k.companionOffset + k.companion.length then c.fill
      else if k.panOffset ≤ n ∧ n < k.panOffset + width then digitByte k.encoding ds (n - k.panOffset)
      else b

/-- A capture whose card part lies within the message (R33 to R36): 13 to 19 digits and the companion bytes. -/
@[reducible] def Capture.Within (c : Capture) (m : Bytes) : Prop :=
  ∀ k ∈ c.card, 13 ≤ k.digits.length ∧ k.digits.length ≤ 19 ∧
    k.panOffset + (match k.encoding with
      | .ascii => k.digits.length
      | .packed => (k.digits.length + 1) / 2) ≤ m.length ∧
    (k.companion = [] ∨ k.companionOffset + k.companion.length ≤ m.length)

/-- The values of a WRAP job on the message `m` under the keys of bank `k` (R122 to R126, Table 11-1). -/
structure WrapValues.Computed (v : WrapValues) (k : KeyBank) (t : JobTarget) (c : Capture) (m : Bytes) : Prop where
  encKey : v.encKey = cipherE k.wrapKey (t.derivation 1)
  tagKey : v.tagKey = cipherE k.wrapKey (t.derivation 2)
  surrogate : v.surrogate = c.card.map fun d => surrogateWork k.surKey d.digits
  cipherText : v.cipherText = t.enciphers v.encKey c.plaintext
  header : v.header =
    [0xF3, 0x5C, 1, if c.card.isSome then 1 else 0, BitVec.ofNat 8 t.slot.val, t.generation] ++
      beBytes 2 t.tillNumber ++ beBytes 4 t.counter ++
      [BitVec.ofNat 8 c.route.val, BitVec.ofNat 8 (c.card.elim 0 (·.digits.length)),
        BitVec.ofNat 8 (c.card.elim 0 (·.companion.length)), 0]
  tag : c.Within m →
    v.tag = tagOver v.tagKey v.header (c.rewritten (v.surrogate.elim [] (·.surrogate)) m ++ v.cipherText)

/-- The values of a VERIFY job on a reply of payload `m`, whose message is its first `n` bytes (R122, R127). -/
structure VerifyValues.Computed (v : VerifyValues) (k : KeyBank) (t : JobTarget) (trailer m : Bytes) (n : Nat) :
    Prop where
  encKey : v.encKey = cipherE k.wrapKey (t.derivation 1)
  tagKey : v.tagKey = cipherE k.wrapKey (t.derivation 2)
  pass : v.pass = true ↔ tagOver v.tagKey (trailer.take 16) (m.take n) = trailer.drop 16

/-- A body of a given length that holds each of the fields (offset, width, value) as a big-endian number (Tables
11-7 and 11-8; section 3.1 of the introduction). -/
@[reducible] def LaysOut (body : Bytes) (length : Nat) (fields : List (Nat × Nat × Nat)) : Prop :=
  body.length = length ∧ ∀ f ∈ fields, fieldNat body f.1 f.2.1 = f.2.2 % 256 ^ f.2.1

/-- The fields of one bank in the READ_SLOT body, from offset `o` (Table 11-8). -/
def KeyBank.fields (b : KeyBank) (o : Nat) : List (Nat × Nat × Nat) :=
  let state := match b.state with
    | .empty => 0
    | .staged => 1
    | .live => 2
    | .draining => 3
  let left := if b.state = .empty then 0 else ceiling b.ceilingCode - b.counter
  [(o, 1, state), (o + 1, 1, b.generation.toNat), (o + 2, 1, b.ceilingCode.val), (o + 3, 4, b.counter),
    (o + 7, 4, left), (o + 11, 2, b.refs), (o + 13, 3, b.wrapCheck.toNat), (o + 16, 3, b.surCheck.toNat)]

/-! ## Items -/

/-- The item commands with their kinds (Table 11-6). -/
def itemKinds : List (Instr × Nat) :=
  [(.readSettings, 1), (.writeSettings, 2), (.readTill, 3), (.writeTill, 4), (.clearTill, 5), (.readRule, 6),
    (.writeRule, 7), (.clearRule, 8), (.readLocator, 9), (.writeLocator, 10), (.clearLocator, 11),
    (.readDestination, 12), (.writeDestination, 13), (.clearDestination, 14), (.readSlot, 15),
    (.stageOpen, 16), (.stageKeys, 17), (.switch, 18), (.retire, 19), (.discardStage, 20),
    (.readEvents, 21), (.writeEventMap, 22), (.writeEventEnables, 23), (.clearEvents, 24),
    (.readCounters, 25), (.clearCounters, 26), (.loadMgmtKeys, 27), (.restart, 28), (.erase, 29)]

/-- R173: the local origin may execute an item of kind `n`. -/
@[reducible] def LocalMay (n floor : Nat) (body : Bytes) : Prop :=
  n ∈ [1, 3, 6, 9, 12, 15, 21, 25] ∨ n = 24 ∨
    ((n = 4 ∨ n = 5) ∧ ∀ b ∈ body.head?, floor ≤ b.toNat)

/-- The command `i` answers the item in hand: it answers a next state that settles from the one with that result and
entry body, and no other effect. -/
def Answers (i : Instr) (s : State) (c : Context) (item : Item) (r : ResultCode) (body : Bytes) : Prop :=
  ∃ t, exec i s = .next t ∧ SettlesTo (s.answered c item.kind r body) t

/-- The read command `i` answers the item in hand with a body that fits, or NOT_EXECUTED (R172). -/
def AnswersRead (i : Instr) (s : State) (c : Context) (item : Item) (body : Bytes) : Prop :=
  (s.Fits c body → Answers i s c item .done body) ∧ (¬ s.Fits c body → Answers i s c item .notExecuted [])

/-- A remote item of kind `n` is in hand with `body` (R171, R173). -/
@[reducible] def State.RemoteItem (s : State) (c : Context) (item : Item) (n : Nat) (body : Bytes) : Prop :=
  s.InHand c item ∧ c.origin = .remote ∧ item.kind.toNat = n ∧ item.body = body

end Sys2Proof.Machine
end

