-- ==== Sys2Proof/Certificates/Slice0/Obligations.lean ====
section
/-! DEFINITION. The statements for the provers. Each docstring says which part of the manual a statement
formalises; the law and word definitions they use are in Sys2Proof/Safety.lean. -/

open Sys2Proof Sys2Proof.Machine

/-! ## One step, and rules of the whole machine -/

/-- A step is the command at the front of the queue, run on the state with the queue's rest. -/
def Obligations.StepRunsFrontCommand : Prop :=
  ∀ (s : State) (c : Instr) (rest : List Instr), s.pending = c :: rest →
    step s = exec c { s with pending := rest }

/-- Every command answers a next state in every state (no command of the table is refused, and the part has no halt
state), and none of them touches the waiting commands or the factory record (section 1.2 of the introduction:
written at manufacture). That a command whose event cannot occur changes nothing is the model's: log entry 5. -/
def Obligations.EveryCommandAnswersNext : Prop :=
  ∀ (c : Instr) (s : State), ∃ t, exec c s = .next t ∧ t.pending = s.pending ∧ t.factory = s.factory

/-- R1: the uptime counter gains 1 with each millisecond, returning to 0 after its maximum; a power-on start leaves it
0; every other command, a restart and an erase among them, leaves it as it stood. -/
def Obligations.UptimeMovesByTickAndStarts : Prop :=
  ∀ (c : Instr) (s t : State), exec c s = .next t →
    (c = .uptimeTick → t.uptime.toNat = (s.uptime.toNat + 1) % 4294967296) ∧
      (c = .powerOnReset → t.uptime.toNat = 0) ∧
      (c ≠ .uptimeTick → c ≠ .powerOnReset → t.uptime = s.uptime)

/-- R170: a last accepted sequence moves at an acceptance of its own origin (a MGMT_TAG job's pass at MGU in
AUTHENTICATING, which enters EXECUTING), to the message's greater sequence, and at a cold start, to 0; at nothing
else. -/
def Obligations.SequencesMoveByAcceptanceAndColdStart : Prop :=
  ∀ (c : Instr) (s t : State), exec c s = .next t →
    (c = .powerOnReset → s.storeValid = false → t.lastRemote = 0 ∧ t.lastLocal = 0) ∧
      (c = .powerOnReset → s.storeValid = true →
        t.lastRemote = s.lastRemote ∧ t.lastLocal = s.lastLocal) ∧
      (c = .mgmtTagResult →
        (t.lastRemote = s.lastRemote ∧ t.lastLocal = s.lastLocal) ∨
          (∃ (l : Fin 4) (id : Nat) (k : Key) (x : Context), s.lanes[l] = some (.mgmtTag id k true) ∧
            s.mgu = .authenticating ∧ s.context = some x ∧ t.mgu = .executing ∧
            let m := fieldNat s.message 11 4
            m ≤ 4294967295 ∧
              (x.origin = .remote ∧ s.lastRemote < m ∧ t.lastRemote = m ∧ t.lastLocal = s.lastLocal ∨
                x.origin = .store ∧ s.lastLocal < m ∧ t.lastLocal = m ∧ t.lastRemote = s.lastRemote))) ∧
      (c ≠ .powerOnReset → c ≠ .mgmtTagResult →
        t.lastRemote = s.lastRemote ∧ t.lastLocal = s.lastLocal) ∧
      (s.lastRemote ≤ 4294967295 → t.lastRemote ≤ 4294967295) ∧
      (s.lastLocal ≤ 4294967295 → t.lastLocal ≤ 4294967295)

/-- R61, over the whole machine: a bank counter rises only at an arrival on port T, by exactly 1 and on a LIVE bank
below its ceiling; at any other move of a counter the bank has become EMPTY or newly STAGED, with counter 0. -/
def Obligations.BankCountersRiseAtAdmissionOnly : Prop :=
  ∀ (c : Instr) (s t : State), exec c s = .next t → ∀ (k : Fin 16) (b : BankId),
    (t.bank k b).counter = (s.bank k b).counter ∨
      ((t.bank k b).counter = 0 ∧ ((t.bank k b).state = .empty ∨ (t.bank k b).state = .staged)) ∨
      (∃ wire, c = .frameReceived .T wire ∧ (s.bank k b).state = .live ∧
        (t.bank k b).counter = (s.bank k b).counter + 1 ∧
        (s.bank k b).counter < ceiling (s.bank k b).ceilingCode)

/-- Section 9.5: the management key record changes only at a start, at an erase, and in an event that can end a
response. -/
def Obligations.ManagementKeysChangeOnlyAt : Prop :=
  ∀ (c : Instr) (s t : State), exec c s = .next t → t.mgmtKeys ≠ s.mgmtKeys →
    (c = .powerOnReset ∨ c = .eraseLineAsserted ∨ c = .erase) ∧ t.mgmtKeys = s.factory.keys ∨
      ((∃ p, c = .transmissionComplete p ∨ c = .linkDown p) ∨ c = .responseTagResult) ∧
        s.context.bind (·.pendingKeys) = some t.mgmtKeys

/-- R173, over the whole machine: no item of a local message changes the tables of the central site, the settings, the
keys, the map, the enables or a till entry below the local floor; a key bank can only lose references, and a
DRAINING one become EMPTY by it. -/
def Obligations.LocalItemsLeaveCentralStateAlone : Prop :=
  ∀ (c : Instr) (s t : State) (x : Context),
    c ∈ [Instr.readSettings, .writeSettings, .readTill, .writeTill, .clearTill, .readRule, .writeRule,
      .clearRule, .readLocator, .writeLocator, .clearLocator, .readDestination, .writeDestination,
      .clearDestination, .readSlot, .stageOpen, .stageKeys, .switch, .retire, .discardStage,
      .readEvents, .writeEventMap, .writeEventEnables, .clearEvents, .readCounters, .clearCounters,
      .loadMgmtKeys, .restart, .erase, .unknownItemKind] →
    s.context = some x → x.origin = .store → exec c s = .next t →
      t.rules = s.rules ∧ t.locators = s.locators ∧ t.destinations = s.destinations ∧
        t.settings = s.settings ∧ t.mgmtKeys = s.mgmtKeys ∧ t.eventMap = s.eventMap ∧
        t.enables = s.enables ∧ t.lastRemote = s.lastRemote ∧ t.lastLocal = s.lastLocal ∧
        (∀ i : Fin 128, i.val < s.settings.localFloor → t.tills[i] = s.tills[i]) ∧
        (∀ (k : Fin 16) (b : BankId), ∃ n,
          t.bank k b = { s.bank k b with refs := n } ∧ n ≤ (s.bank k b).refs ∨
            (s.bank k b).state = .draining ∧ t.bank k b = .cleared) ∧
        (∀ y, t.context = some y → y.restartPending = x.restartPending ∧ y.pendingKeys = x.pendingKeys)

/-! ## Laws that every step keeps -/

/-- R57 to R59, R62 to R64, Table 4-1: every slot's banks form one of the seven pairs of Table 4-3 after every step; every
bank counter stays within its ceiling, 0 in a STAGED bank, and an EMPTY bank keeps its EMPTY values; and every reference
count stays the number of the bank's open exchanges and jobs, 0 while it is EMPTY or STAGED and at least 1 while it is
DRAINING (the premises beside it are kept by every step on their own). -/
def Obligations.KeyBanksStayLegal : Prop :=
  ∀ s t : State, step s = .next t →
    (s.PairLaw → t.PairLaw) ∧ (s.RationLaw → t.RationLaw) ∧
      (s.RefLaw ∧ s.StoreLaw ∧ s.EntryLaw ∧ s.ExchangeLaw → t.RefLaw)

/-- R44: no two valid till entries come to share an address or a number. -/
def Obligations.TillsStayDistinct : Prop :=
  ∀ s t : State, s.TillLaw → step s = .next t → t.TillLaw

/-- Section 2.4, R193, R181 and Table 9-5: every valid rule goes on naming a valid locator, no two sources come to share a
notice slot, and every setting stays in its range. -/
def Obligations.RuleAndMapLawsAreKept : Prop :=
  ∀ s t : State, step s = .next t →
    (s.RuleLaw → t.RuleLaw) ∧ (s.MapLaw → t.MapLaw) ∧ (s.SettingsLaw → t.SettingsLaw)

/-- R43, R83 and Table 5-1: an invalid till entry stays cold with no exchange, a valid one keeps a number in range, and
every open exchange keeps the form of Table 5-1. -/
def Obligations.TillEntriesAndExchangesStayFormed : Prop :=
  ∀ s t : State, s.EntryLaw ∧ s.ExchangeLaw → step s = .next t → t.EntryLaw ∧ t.ExchangeLaw

/-- R111, R114: the queue never exceeds its 64 entries, and no job waits while a lane is idle. -/
def Obligations.QueueStaysWithinItsEntries : Prop :=
  ∀ s t : State, s.QueueLaw → step s = .next t → t.QueueLaw

/-- R6, R7, R20: a DOWN port holds no outgoing work, and an UP port with an IDLE transmitter has none waiting. -/
def Obligations.PortsStayServed : Prop :=
  ∀ s t : State, s.PortLaw → step s = .next t → t.PortLaw

/-- R120 with R111: every frame slot stays free or with exactly one holder, and job identities stay distinct. -/
def Obligations.FrameSlotsKeepOneHolder : Prop :=
  ∀ s t : State, s.StoreLaw → step s = .next t → t.StoreLaw

/-- R162: no frame that the guard would block comes to wait for port L's transmitter or to be sent by it. The
premises beside it say which buffers hold the waiting frames; each is kept by every step on its own. -/
def Obligations.LineStaysClearOfPassingRuns : Prop :=
  ∀ s t : State, s.LineClear ∧ s.StoreLaw ∧ s.BufferLaw → step s = .next t → t.LineClear

/-- Table 1-9, R16, R110, R174, R195: every own-output entry that names a stand-in buffer, an ARP answer buffer, the response
buffer or a notice buffer keeps that buffer, and no such buffer gets two entries (frame slots:
FrameSlotsKeepOneHolder). -/
def Obligations.QueueEntriesKeepTheirBuffers : Prop :=
  ∀ s t : State, s.BufferLaw → step s = .next t → t.BufferLaw

/-- R190: after every step each level status is set exactly while its condition holds. -/
def Obligations.LevelStatusesFollowConditions : Prop :=
  ∀ s t : State, s.LevelLaw → step s = .next t → t.LevelLaw

/-- Every law holds in the state after reset (what State.reset holds is the model's in part: log entries 1 and 7). -/
def Obligations.ResetMeetsEveryLaw : Prop :=
  State.reset.PairLaw ∧ State.reset.TillLaw ∧ State.reset.RuleLaw ∧ State.reset.MapLaw ∧
    State.reset.RationLaw ∧ State.reset.EntryLaw ∧ State.reset.ExchangeLaw ∧ State.reset.QueueLaw ∧
    State.reset.PortLaw ∧ State.reset.StoreLaw ∧ State.reset.LineClear ∧ State.reset.BufferLaw ∧
    State.reset.LevelLaw ∧ State.reset.SettingsLaw ∧ State.reset.RefLaw

/-! ## Starts, the pins and the clock -/

/-- R2, R22, R26, R45, R81, R86, R131, R165, R187, R199: a cold start leaves the cold values, the factory management keys
and a valid store. (What State.reset holds beside them is the model's: log entries 1 and 7.) -/
def Obligations.ColdStartLeavesTheColdValues : Prop :=
  ∀ s : State, s.storeValid = false → s.eraseLine = false →
    exec .powerOnReset s = .next
      { State.reset with
        pending := s.pending, factory := s.factory, nextJob := s.nextJob
        mgmtKeys := { mtk := s.factory.mtk, ktk := s.factory.ktk, lmk := none } }

/-- R2, R22, R45, R82, R86, R131, R165, R187, R199: a warm start loses the working state, takes both links DOWN, and makes
uptime and the global counters 0; everything retained stays. -/
def Obligations.WarmStartLosesTheWorkingState : Prop :=
  ∀ s : State, s.storeValid = true → s.eraseLine = false →
    ∃ t, exec .powerOnReset s = .next t ∧
      LosesWork { s with uptime := 0, counters := Vector.replicate 33 0 } t .down .down

/-- R80 with R23, R71, R79, R86, R132, R176, R178, R186, R199: the erase line's change to asserted takes an erase, in each
state of MGU; and a start that finds the line asserted takes one at its end. (The number of the RESPONSE_TAG job that
TAGGING offers again is the model's, log entry 9, and that it finds the lanes idle, log entry 28.) -/
def Obligations.EraseLineErases : Prop :=
  (∀ s : State, s.eraseLine = false →
    ∃ t, exec .eraseLineAsserted s = .next t ∧
      let e : State := { s.erasedStore with eraseLine := true }
      (s.mgu = .idle ∨ s.mgu = .answering ∨
          (s.mgu = .executing ∧ ∃ c, s.context = some c ∧ c.job = none) →
        SettlesTo e.erasedEnd t) ∧
      (s.mgu = .authenticating →
        SettlesTo
          ((({ e with mgu := .idle, message := [], context := none } : State).latch .mgmtReject).bump
            .mgmtRejected).erasedEnd t) ∧
      (∀ c item, s.mgu = .executing → s.context = some c → c.job.isSome = true → s.itemAt = some item →
        SettlesTo
          ({ e with
              response := s.response ++ [item.kind, 13, 0, 0]
              context := some { c with nextItem := c.nextItem + 1, job := none, pendingKeys := none } } :
            State).erasedEnd t) ∧
      (∀ c, s.mgu = .tagging → s.context = some c →
        SettlesTo
          ({ e with
              nextJob := s.nextJob + 1
              lanes := (Vector.replicate 4 none).set 0
                (some (.responseTag s.nextJob c.key (responseTag c.key s.response)))
              context := some { c with job := some s.nextJob, pendingKeys := none } } : State).erasedEnd t)) ∧
  (∀ s : State, s.eraseLine = true →
    ∃ t, exec .powerOnReset s = .next t ∧
      (s.storeValid = true →
        SettlesTo
          ((({ s with
                uptime := 0, counters := Vector.replicate 33 0
                mgmtKeys := { mtk := s.factory.mtk, ktk := s.factory.ktk, lmk := none } } :
              State).withoutWork .down .down
                (Vector.replicate 16 { a := KeyBank.cleared, b := KeyBank.cleared })).latch .erased) t) ∧
      (s.storeValid = false →
        SettlesTo
          (({ State.reset with
              pending := s.pending, factory := s.factory, nextJob := s.nextJob, eraseLine := true
              mgmtKeys := { mtk := s.factory.mtk, ktk := s.factory.ktk, lmk := none } } :
            State).latch .erased) t))

/-- R80, R2, R1, R85: the erase line's return and the battery's loss are kept and do nothing else; the erase line, still
asserted, takes no further erase; a millisecond moves the uptime counter and the countdowns alone. (That the tick which
brings a countdown to 0 takes no expiry, which is a command of its own, is the model's: log entry 20.) -/
def Obligations.PinsAndTheTick : Prop :=
  ∀ s : State,
    exec .eraseLineDeasserted s = .next { s with eraseLine := false } ∧
      exec .batterySupplyLost s = .next { s with storeValid := false } ∧
      (s.eraseLine = true → exec .eraseLineAsserted s = .next s) ∧
      ∃ t, exec .uptimeTick s = .next t ∧ t = { s with uptime := t.uptime, tills := t.tills } ∧
        t.uptime.toNat = (s.uptime.toNat + 1) % 4294967296 ∧
        ∀ i : Fin 128, t.tills[i] =
          { s.tills[i] with
            exchange :=
              match s.tills[i].exchange with
              | none => none
              | some x => some { x with deadline := x.deadline - 1 } }

/-- R104, R105 with R109: the expiry of an exchange in ADMITTED or AWAITING closes it as LOST, with REPLY_LOST latched, the
till's replies lost counted and a REPLY_LOST stand-in; in VERIFYING it is only noted. -/
def Obligations.ExpiryClosesAsLostOrIsNoted : Prop :=
  ∀ (s : State) (i : Fin 128) (x : Exchange), s.tills[i].exchange = some x → x.deadline = 0 →
    ∃ t, exec (.deadlineExpiry i) s = .next t ∧
      (x.phase = .verifying →
        t = { s with
          tills := s.tills.set i
            { s.tills[i] with exchange := some { x with expiredWhileVerifying := true } } }) ∧
      (x.phase ≠ .verifying →
        SettlesTo
          ((((s.latch .replyLost).closeExchange i 0).bumpStat i .repliesLost).standIn i .replyLost
            (some x.seq) x.sourcePort) t)

/-! ## Operations that commands share -/

/-- R189, R197, R51: a latch sets its status alone; a counter and a statistic gain 1 up to their maximum, and the gain that
reaches it latches COUNTER_SATURATED. -/
def Obligations.CountersGainAndSaturate : Prop :=
  ∀ (s : State),
    (∀ e : EventSource, s.latch e = { s with status := s.status.set e.idx true }) ∧
      (∀ c : Counter,
        (s.bump c) = { s with counters := (s.bump c).counters, status := (s.bump c).status } ∧
          (s.bump c).counters[c.idx] = gained 4294967295 s.counters[c.idx] ∧
          (∀ d : Fin 33, d ≠ c.idx → (s.bump c).counters[d] = s.counters[d]) ∧
          (s.bump c).status =
            if s.counters[c.idx] = 4294967294 then s.status.set EventSource.counterSaturated.idx true
            else s.status) ∧
      (∀ (i : Fin 128) (k : Stat),
        (s.bumpStat i k) = { s with tills := (s.bumpStat i k).tills, status := (s.bumpStat i k).status } ∧
          (s.bumpStat i k).tills[i] = s.tills[i].setStat k (gained 65535 (s.tills[i].stat k)) ∧
          (∀ j : Fin 128, j ≠ i → (s.bumpStat i k).tills[j] = s.tills[j]) ∧
          (s.bumpStat i k).status =
            if s.tills[i].stat k = 65534 then s.status.set EventSource.counterSaturated.idx true
            else s.status)

/-- R107, R117, R63, R113: a close removes the record and releases its reference (with the completing job's); a waiting job
leaves the queue with its slot and reference, and a management job waiting in MGU takes the entry; a running job
stays. -/
def Obligations.ClosingReleasesTheHoldings : Prop :=
  ∀ (s : State) (i : Fin 128) (n : Nat) (x : Exchange), s.tills[i].exchange = some x →
    (s.waiting.map (·.id)).Nodup → (x.wrapJob = none ∨ x.verifyJob = none) →
    let released (m : Nat) : KeyBank :=
      if (s.bank x.slot x.bank).state = .draining ∧ (s.bank x.slot x.bank).refs ≤ m then KeyBank.cleared
      else { s.bank x.slot x.bank with refs := (s.bank x.slot x.bank).refs - m }
    let closed : State := { s with tills := s.tills.set i { s.tills[i] with exchange := none } }
    ((∀ j ∈ s.waiting, x.wrapJob ≠ some j.id ∧ x.verifyJob ≠ some j.id) →
      s.closeExchange i n = closed.setBank x.slot x.bank (released (1 + n))) ∧
    (∀ j ∈ s.waiting, ∀ k, x.wrapJob = some j.id ∨ x.verifyJob = some j.id → j.work.frame = some k →
      let without : State :=
        ({ closed with
            waiting := s.waiting.filter fun w => w.id ≠ j.id
            frames := s.frames.set k []
            freeSlots := s.freeSlots ++ [k] } : State).setBank x.slot x.bank (released 2)
      (s.mgmtWaiting = none → s.closeExchange i n = without) ∧
      (∀ m, s.mgmtWaiting = some m → without.occupied < 64 →
        s.closeExchange i n = ({ without with mgmtWaiting := none } : State).enterJob m))

/-- R109, R110, R157: the decision counts, and for every reason but REPLY_LOST latches REFUSAL and counts for the till; with
all 16 entries occupied the stand-in is dropped, else it is built in the lowest free entry and offered to port T
(the choice of entry: log entry 11). -/
def Obligations.StandInIsCountedBuiltAndOffered : Prop :=
  ∀ (s : State) (i : Fin 128) (r : Reason) (q : Option Sequence) (port : UdpPort),
    let d : State :=
      if r = .replyLost then s.bump (.standIns r)
      else ((s.bump (.standIns r)).latch .refusal).bumpStat i .refusals
    let payload : Bytes :=
      match q with
      | none => [0xF3, 0x5E, 0, BitVec.ofNat 8 r.code]
      | some q => [0xF3, 0x5E, BitVec.ofNat 8 q.width] ++ beBytes q.width q.value ++ [BitVec.ofNat 8 r.code]
    let frame : Bytes :=
      buildUdp
        { dstMac := s.tills[i].mac, srcMac := s.factory.station
          tagControl := if s.settings.tillVlan = 0 then none else some (BitVec.ofNat 16 s.settings.tillVlan)
          srcIp := s.settings.serviceAddress, dstIp := s.tills[i].ip, srcPort := s.settings.servicePort
          dstPort := port, ident := s.ident } payload
    ((∀ e : Fin 16, s.standIns[e].isSome = true) → s.standIn i r q port = d.bump .standInDrops) ∧
    (∀ e : Fin 16, s.standIns[e] = none → (∀ j : Fin 16, j < e → s.standIns[j].isSome = true) →
      let built : State := { d with standIns := s.standIns.set e (some frame), ident := s.ident + 1 }
      (s.portT.link = .down → s.standIn i r q port = { d with ident := s.ident + 1 }) ∧
      (s.portT.link = .up → s.portT.sending.isSome = true →
        s.standIn i r q port =
          { built with portT := { s.portT with ownQueue := s.portT.ownQueue ++ [.standIn e] } }) ∧
      (s.portT.link = .up → s.portT.sending = none → s.portT.ownQueue = [] → s.portT.bridge = [] →
        s.standIn i r q port =
          { built with
            portT :=
              { s.portT with
                sending := some { kind := .own (.standIn e), frame := frame, wire := wireImage frame }
                lastServed := .own } }))

/-- R20, R195: an IDLE transmitter of an UP port takes the oldest frame of the source that alone has one, or that was not
last served, pads it to 60 bytes and appends the frame check sequence; otherwise nothing is taken. -/
def Obligations.ArbiterTakesInTurn : Prop :=
  ∀ (s : State) (p : PortId),
    let x := s.port p
    let image (f : Bytes) : Bytes :=
      f ++ List.replicate (60 - f.length) 0 ++ fcs (f ++ List.replicate (60 - f.length) 0)
    (x.link = .down ∨ x.sending.isSome = true ∨ (x.bridge = [] ∧ x.ownQueue = []) → s.arbiter p = s) ∧
    (∀ f rest, x.link = .up → x.sending = none → x.bridge = f :: rest →
      (x.ownQueue = [] ∨ x.lastServed = .own) →
      s.arbiter p = s.setPort p
        { x with
          sending := some { kind := .bridged, frame := f, wire := image f }
          lastServed := .bridge, bridge := rest }) ∧
    (∀ e rest, x.link = .up → x.sending = none → x.ownQueue = e :: rest →
      (x.bridge = [] ∨ x.lastServed = .bridge) →
      let f := s.heldFrame p e
      let s1 := s.setPort p
        { x with
          sending := some { kind := .own e, frame := f, wire := image f }
          lastServed := .own, ownQueue := rest }
      s.arbiter p = if e = .notice then { s1 with noticeWaiting := none, noticeSending := some f } else s1)

/-- R112 to R116: an entering job goes to the lowest idle lane when no job waits, else to the newest end; a lane that
completes takes the oldest waiting job, and a management job waiting in MGU then enters. R115 with R122 to R130: the job
a lane takes reads its inputs then, and has the keys, cipher text, header, tag and result of those rules. -/
def Obligations.LanesTakeTheOldestJob : Prop :=
  ∀ (s : State),
    (∀ (j : Job) (l : Fin 4), s.waiting = [] → s.lanes[l] = none →
      (∀ k : Fin 4, k < l → s.lanes[k].isSome = true) →
      s.enterJob j = { s with lanes := s.lanes.set l (some (s.startJob j)) }) ∧
    (∀ j : Job, (∀ l : Fin 4, s.lanes[l].isSome = true) →
      s.enterJob j = { s with waiting := s.waiting ++ [j] }) ∧
    (∀ l : Fin 4, s.waiting = [] → s.mgmtWaiting = none →
      s.finishLane l = { s with lanes := s.lanes.set l none }) ∧
    (∀ (l : Fin 4) (j : Job) (rest : List Job), s.waiting = j :: rest →
      let taken : State := { s with waiting := rest, lanes := s.lanes.set l (some (s.startJob j)) }
      (s.mgmtWaiting = none → s.finishLane l = taken) ∧
      (∀ m, s.mgmtWaiting = some m → taken.occupied < 64 → (∀ k : Fin 4, taken.lanes[k].isSome = true) →
        s.finishLane l = { taken with waiting := rest ++ [m], mgmtWaiting := none })) ∧
    (∀ (id : Nat) (g : JobTarget) (c : Capture) (d : Destination), ∃ v,
      s.startJob { id := id, work := .wrap g c d } = .wrap id g c d v ∧
        v.Computed (s.bank g.slot g.bank) g c (udpPayload s.frames[g.frame])) ∧
    (∀ (id : Nat) (g : JobTarget) (trailer : Bytes) (n : Nat), ∃ v,
      s.startJob { id := id, work := .verify g trailer n } = .verify id g trailer n v ∧
        v.Computed (s.bank g.slot g.bank) g trailer (udpPayload s.frames[g.frame]) n) ∧
    (∀ (id : Nat) (k : Key), ∃ pass,
      s.startJob { id := id, work := .mgmtTag k } = .mgmtTag id k pass ∧
        (pass = true ↔
          tagOver k (s.message.take 16) ((s.message.drop 16).take (s.message.length - 24)) =
            s.message.drop (s.message.length - 8))) ∧
    (∀ (id : Nat) (k : Key),
      s.startJob { id := id, work := .responseTag k } =
        .responseTag id k (tagOver k (s.response.take 16) (s.response.drop 16))) ∧
    (∀ (id : Nat) (ktk : Key) (given : List (Key × CheckValue)), ∃ keys pass,
      s.startJob { id := id, work := .keyUnwrap ktk given } = .keyUnwrap id ktk given keys pass ∧
        (pass = true ↔ ∀ x ∈ given,
          beBytes 3 x.2.toNat = (blockBytes (cipherE (cipherD ktk x.1) 0)).take 3) ∧
        keys = if pass then given.map fun x => cipherD ktk x.1 else [])

/-- R194 to R196, R158, R163: at the end of an event that is no start or erase a notice is asked for only if notices have
become possible or a slot level or ATTENTION has changed; a new notice carries the present values, a waiting one is
rewritten under its identification; port L's link DOWN discards a new one. A new or a rewritten one that the guard blocks
is discarded, with GUARD_BLOCK latched and counted, the waiting buffer free and its entry removed; and where that changes
a slot level or ATTENTION, a notice is asked for again from there. (That the ask follows every other effect of the event
is the model's: log entry 14.) -/
def Obligations.NoticesAreAskedAndBuilt : Prop :=
  (∀ before s : State, before.noticeTarget ≠ none → before.attention = s.evalLevels.attention →
    before.slotLevels = s.evalLevels.slotLevels → conclude false before s = s.evalLevels) ∧
  (∀ (start : Bool) (before s : State) (d : Destination), s.noticeTarget = some d →
    (start = true ∨ before.noticeTarget = none ∨ before.attention ≠ s.evalLevels.attention ∨
      before.slotLevels ≠ s.evalLevels.slotLevels) →
    let e := s.evalLevels
    let payload : Bytes :=
      [0xF3, 0x60, 1] ++ beBytes 8 s.factory.serial.toNat ++ beBytes 4 s.uptime.toNat ++
        beBytes 3 (bitsToNat e.slotLevels) ++ [if e.attention then 1 else 0]
    let frame (n : BitVec 16) : Bytes :=
      buildUdp
        { dstMac := d.mac, srcMac := s.factory.station
          tagControl := if s.settings.lineVlan = 0 then none else some (BitVec.ofNat 16 s.settings.lineVlan)
          srcIp := s.settings.lineAddress, dstIp := d.ip, srcPort := s.settings.noticePort
          dstPort := d.port, ident := n } payload
    (∀ w, s.noticeWaiting = some w → guardPasses (frame w.ident) = true →
      conclude start before s = { e with noticeWaiting := some { w with frame := frame w.ident } }) ∧
    (s.noticeWaiting = none → s.portL.link = .down →
      conclude start before s = { e with ident := s.ident + 1 }) ∧
    (s.noticeWaiting = none → s.portL.link = .up → guardPasses (frame s.ident) = true →
      s.portL.sending.isSome = true →
      conclude start before s =
        { e with
          noticeWaiting := some { ident := s.ident, frame := frame s.ident }, ident := s.ident + 1
          portL := { s.portL with ownQueue := s.portL.ownQueue ++ [.notice] } }) ∧
    (s.noticeWaiting = none → s.portL.link = .up → guardPasses (frame s.ident) = true →
      s.portL.sending = none → s.portL.ownQueue = [] → s.portL.bridge = [] →
      conclude start before s =
        { e with
          noticeSending := some (frame s.ident), ident := s.ident + 1
          portL :=
            { s.portL with
              sending := some
                { kind := .own .notice, frame := frame s.ident, wire := wireImage (frame s.ident) }
              lastServed := .own } }) ∧
    let blocked (a : State) : Prop :=
      let b := (a.latch .guardBlock).bump .guardBlocks
      (b.attention = e.attention → b.slotLevels = e.slotLevels → conclude start before s = b) ∧
        (b.attention ≠ e.attention ∨ b.slotLevels ≠ e.slotLevels →
          conclude start before s = conclude true b b)
    (s.noticeWaiting = none → s.portL.link = .up → guardPasses (frame s.ident) = false →
      blocked { e with ident := s.ident + 1 }) ∧
    (∀ w, s.noticeWaiting = some w → guardPasses (frame w.ident) = false →
      blocked
        { e with
          noticeWaiting := none
          portL := { s.portL with ownQueue := s.portL.ownQueue.filter (· ≠ .notice) } }))

/-! ## Commands at the ports -/

/-- R5, R6: a link report that changes nothing has no effect; a link-up report makes the link UP; a link-down report makes it
DOWN, empties the port and releases the buffer of every frame it discards (with no response among them). -/
def Obligations.LinkReports : Prop :=
  ∀ (s : State) (p : PortId),
    ((s.port p).link = .up → exec (.linkUp p) s = .next s) ∧
      ((s.port p).link = .down → exec (.linkDown p) s = .next s) ∧
      ((s.port p).link = .down → (s.port p).ownQueue = [] → (s.port p).bridge = [] →
        ∃ t, exec (.linkUp p) s = .next t ∧ SettlesTo (s.setPort p { s.port p with link := .up }) t) ∧
      ((s.port p).link = .up → OwnEntry.response ∉ (s.port p).entries →
        ∃ a t, exec (.linkDown p) s = .next t ∧ SettlesTo a t ∧
          a = { s.setPort p (a.port p) with
            frames := a.frames, freeSlots := a.freeSlots, standIns := a.standIns
            noticeWaiting := a.noticeWaiting, noticeSending := a.noticeSending
            counters := a.counters, status := a.status } ∧
          a.port p = { s.port p with
            link := .down, sending := none, ownQueue := [], bridge := [], arp := (a.port p).arp } ∧
          (∀ b : Fin 2, (a.port p).arp[b] =
            if .arp b ∈ (s.port p).entries then none else (s.port p).arp[b]) ∧
          (∀ e : Fin 16, a.standIns[e] =
            if .standIn e ∈ (s.port p).entries then none else s.standIns[e]) ∧
          (∀ k : Fin 64, a.frames[k] = if k ∈ (s.port p).slotsHeld then [] else s.frames[k]) ∧
          a.freeSlots.Perm (s.freeSlots ++ (s.port p).slotsHeld) ∧
          a.noticeWaiting = (if .notice ∈ (s.port p).ownQueue then none else s.noticeWaiting) ∧
          a.noticeSending =
            (if (s.port p).sending.map (·.kind) = some (.own .notice) then none else s.noticeSending) ∧
          (∀ n : Fin 33, n ≠ Counter.bridgeDrops.idx → a.counters[n] = s.counters[n]) ∧
          (s.counters[Counter.bridgeDrops.idx] ≤ 4294967295 →
            a.counters[Counter.bridgeDrops.idx] = min 4294967295
              (s.counters[Counter.bridgeDrops.idx] + (s.port p).bridge.length +
                if (s.port p).sending.map (·.kind) = some .bridged then 1 else 0)) ∧
          (∀ e : Fin 18, e ≠ EventSource.counterSaturated.idx → a.status[e] = s.status[e]))

/-- R21 with R195 and R197: a transmission that completes leaves the transmitter IDLE, releases the frame's buffer as its kind
requires, and the arbiter acts (every kind but the management response). -/
def Obligations.TransmissionReleasesItsBuffer : Prop :=
  ∀ (s : State) (p : PortId) (w : Sending), (s.port p).sending = some w → w.kind ≠ .own .response →
    let idle := s.setPort p { s.port p with sending := none }
    let released : State :=
      match w.kind with
      | .bridged => idle.bump (match p with | .L => .bridgedTL | .T => .bridgedLT)
      | .own (.wrapped k) => { idle with frames := s.frames.set k [], freeSlots := s.freeSlots ++ [k] }
      | .own (.forwarded k) => { idle with frames := s.frames.set k [], freeSlots := s.freeSlots ++ [k] }
      | .own (.standIn e) => { idle with standIns := s.standIns.set e none }
      | .own .response => idle
      | .own .notice => ({ idle with noticeSending := none } : State).bump .noticesSent
      | .own (.arp b) =>
        s.setPort p { s.port p with sending := none, arp := (s.port p).arp.set b none }
    ∃ t, exec (.transmissionComplete p) s = .next t ∧ SettlesTo (released.arbiter p) t

/-- R175, R178, R184, R82, R86, R131, R165, R187, R199: where the response's transmission completes or its port goes down,
pending keys are committed, the buffers are emptied and MGU enters IDLE; and a restart that is pending is taken
(after the event's other effects, of which the bridge drops of a port that went down stay counted: log entry 16). -/
def Obligations.ResponseEndsTheMessage : Prop :=
  ∀ (s : State) (p : PortId) (c : Context), s.mgu = .answering → s.context = some c →
    (∀ w, (s.port p).sending = some w → w.kind = .own .response →
      ∃ t, exec (.transmissionComplete p) s = .next t ∧
        (c.restartPending = false →
          SettlesTo
            (({ s.setPort p { s.port p with sending := none } with
                mgmtKeys := c.pendingKeys.getD s.mgmtKeys
                mgu := .idle, message := [], response := [], responseFrame := [], context := none } :
              State).arbiter p) t) ∧
        (c.restartPending = true →
          LosesWork { s with mgmtKeys := c.pendingKeys.getD s.mgmtKeys } t s.portT.link s.portL.link)) ∧
    ((s.port p).link = .up → OwnEntry.response ∈ (s.port p).entries →
      (s.port p).entries.count .response = 1 →
      ∃ t, exec (.linkDown p) s = .next t ∧
        (c.restartPending = false →
          (t.port p).link = .down ∧ t.mgu = .idle ∧ t.message = [] ∧ t.response = [] ∧
            t.responseFrame = [] ∧ t.context = none ∧ t.mgmtKeys = c.pendingKeys.getD s.mgmtKeys ∧
            t.tills = s.tills ∧ t.slots = s.slots ∧ t.waiting = s.waiting ∧ t.lanes = s.lanes) ∧
        (c.restartPending = true →
          ∃ n : Vector Nat 33,
            (∀ k : Fin 33, k ≠ Counter.bridgeDrops.idx → n[k] = s.counters[k]) ∧
              (s.counters[Counter.bridgeDrops.idx] ≤ 4294967295 →
                n[Counter.bridgeDrops.idx] =
                  min 4294967295
                    (s.counters[Counter.bridgeDrops.idx] + (s.port p).bridge.length +
                      if (s.port p).sending.map (·.kind) = some .bridged then 1 else 0)) ∧
              LosesWork { s with mgmtKeys := c.pendingKeys.getD s.mgmtKeys, counters := n } t
                (if p = .T then .down else s.portT.link) (if p = .L then .down else s.portL.link)))

/-- R3, R10, R12, R13, R16, R17, R18, R97: a frame dropped at the port is counted; one dropped as MALFORMED is latched and
counted; one sent to the bridge decision is dropped, discarded at a DOWN port, blocked, dropped at a full buffer
or waits its turn; an ARP request takes a free answer buffer or is dropped (the lowest: log entry 11). (Which frames to
a replaced management port are busy instead, R188: log entry 33.) -/
def Obligations.FramesAreDroppedBridgedOrAnswered : Prop :=
  ∀ (s : State) (p : PortId) (wire : Bytes),
    ((s.port p).link = .up → portAccepts wire = false →
      ∃ t, exec (.frameReceived p wire) s = .next t ∧ SettlesTo (s.bump .portDrops) t) ∧
    (∀ f, s.Arrives p wire f →
      let a := s.setReceive p none
      let q := otherPort p
      let answer := arpAnswer s.factory.station (s.ownAddress p) f
      (s.MalformedAt p f →
        ∃ t, exec (.frameReceived p wire) s = .next t ∧
          SettlesTo ((a.latch .malformed).bump .malformed) t) ∧
      (s.BridgedAt p f →
        ∃ t, exec (.frameReceived p wire) s = .next t ∧
          (s.settings.bridgeMode = .closed ∨ (s.port q).link = .down → SettlesTo (a.bump .bridgeDrops) t) ∧
          (s.settings.bridgeMode = .guarded → (s.port q).link = .up →
            (q = .L → guardPasses f = false → SettlesTo ((a.latch .guardBlock).bump .guardBlocks) t) ∧
            ((q = .L → guardPasses f = true) → 32 ≤ (s.port q).bridge.length →
              SettlesTo (a.bump .bridgeDrops) t) ∧
            ((q = .L → guardPasses f = true) → (s.port q).bridge.length < 32 →
              SettlesTo
                ((a.setPort q { s.port q with bridge := (s.port q).bridge ++ [f] }).arbiter q) t))) ∧
      (isArpRequest s.factory.station (s.ownAddress p) f = true →
        ((∀ b : Fin 2, (s.port p).arp[b].isSome = true) →
          ∃ t, exec (.frameReceived p wire) s = .next t ∧ SettlesTo a t) ∧
        (∀ b : Fin 2, (s.port p).arp[b] = none → (∀ j : Fin 2, j < b → (s.port p).arp[j].isSome = true) →
          ∃ t, exec (.frameReceived p wire) s = .next t ∧
            (p = .L → guardPasses answer = false →
              SettlesTo ((a.latch .guardBlock).bump .guardBlocks) t) ∧
            ((p = .L → guardPasses answer = true) →
              SettlesTo
                ((s.setPort p
                  { s.port p with
                    receive := none
                    arp := (s.port p).arp.set b (some answer)
                    ownQueue := (s.port p).ownQueue ++ [.arp b] }).arbiter p) t))))

/-- R47 and R29: a payment request from an address that is the till IP address of no valid entry is dropped as UNKNOWN_TILL, and
one that no valid rule classifies as NO_RULE; nothing else happens to it. -/
def Obligations.UnknownAndUnclassifiedRequestsAreDropped : Prop :=
  ∀ (s : State) (wire f : Bytes), s.Arrives .T wire f → s.PaymentAt f →
    ((∀ j : Fin 128, s.tills[j].valid = true → s.tills[j].ip ≠ ipSource f) →
      ∃ t, exec (.frameReceived .T wire) s = .next t ∧
        SettlesTo (((s.setReceive .T none).latch .unknownTill).bump .unknownTill) t) ∧
    (∀ i, s.TillFound f i → (∀ r : Fin 16, ¬ s.rules[r].Takes (udpPayload f)) →
      ∃ t, exec (.frameReceived .T wire) s = .next t ∧
        SettlesTo (((s.setReceive .T none).latch .noRule).bump .noRule) t)

/-- R88: a request with the sequence of its till's open exchange is dropped and counted, and the exchange is left as it was. -/
def Obligations.DuplicateRequestsAreDropped : Prop :=
  ∀ (s : State) (wire f : Bytes) (i : Fin 128) (r : Fin 16) (cap : RequestCapture) (x : Exchange),
    s.RequestAt wire f i r cap → s.tills[i].exchange = some x → cap.seq = some x.seq →
    ∃ t, exec (.frameReceived .T wire) s = .next t ∧
      SettlesTo (((s.setReceive .T none).bump .requestsRecognised).bump .duplicates) t

/-- R92 with R61, R62, R49, R85, R89: a request that passes every test opens its exchange, after the close of one it supersedes
(the number that names the job: log entry 9). -/
def Obligations.AdmissionOpensTheExchange : Prop :=
  ∀ (s : State) (wire f : Bytes) (i : Fin 128) (r : Fin 16) (c : Capture) (d : Destination) (b : BankId)
    (g : Fin 64) (rest : List (Fin 64)),
    s.RequestAt wire f i r (.accepted c) → (∀ x, s.tills[i].exchange = some x → c.seq ≠ x.seq) →
    let a := s.atStep3 i
    let e := s.tills[i]
    let k := a.bank e.slot b
    a.destinations[c.route] = some d → (udpPayload f).length + 24 + plainLength c ≤ 1472 →
    (a.slots[e.slot]).Legal → k.state = .live → k.counter < ceiling k.ceilingCode →
    a.freeSlots = g :: rest → a.occupied < 64 →
    let opened : Exchange :=
      { phase := .admitted, seq := c.seq, sourcePort := udpSource f, slot := e.slot, bank := b
        generation := k.generation, counter := k.counter + 1
        deadline := if e.timeoutCode = 0 then 30000 else e.timeoutCode.toNat * 1000
        expiredWhileVerifying := false, wrapJob := some a.nextJob, verifyJob := none }
    let target : JobTarget :=
      { till := i, slot := e.slot, bank := b, generation := k.generation, counter := k.counter + 1
        tillNumber := e.number, frame := g }
    ∃ t, exec (.frameReceived .T wire) s = .next t ∧
      SettlesTo
        ((({ a with
            frames := a.frames.set g f, freeSlots := rest, nextJob := a.nextJob + 1
            tills := a.tills.set i { a.tills[i] with exchange := some opened } } : State).setBank e.slot b
              { k with counter := k.counter + 1, refs := k.refs + 2 }).enterJob
          { id := a.nextJob, work := .wrap target c d }) t

/-- R90, R91, R60 with R109: a request that fails a test is answered with a stand-in of its reason, and takes nothing else. -/
def Obligations.AdmissionRefusesWithAStandIn : Prop :=
  ∀ (s : State) (wire f : Bytes) (i : Fin 128) (r : Fin 16) (cap : RequestCapture) (reason : Reason),
    s.RequestAt wire f i r cap → (∀ x, s.tills[i].exchange = some x → cap.seq ≠ some x.seq) →
    let a := s.atStep3 i
    (a.slots[s.tills[i].slot]).Legal → a.RefusesFor i (udpPayload f).length cap reason →
    ∃ t, exec (.frameReceived .T wire) s = .next t ∧ SettlesTo (a.standIn i reason cap.seq cap.port) t

/-- R48, R98 to R101: a reply that names the AWAITING exchange of its till is accepted when a frame slot and an entry are free;
a reply at a VERIFYING exchange, or without a slot or an entry, is dropped as REPLY_BUSY; any other is late (the
number that names the job: log entry 9). -/
def Obligations.RepliesAreMatchedWithTheRecord : Prop :=
  ∀ (s : State) (wire f : Bytes),
    let a := s.setReceive .L none
    let m := udpPayload f
    let trailer := m.drop (m.length - 24)
    let names (x : Exchange) : Prop :=
      fieldNat trailer 4 1 = x.slot.val ∧ byteAt trailer 5 = x.generation ∧ fieldNat trailer 8 4 = x.counter
    (s.Arrives .L wire f → s.ReplyAt f → replyFormOk m = true →
      (∀ j : Fin 128, s.tills[j].valid = true → s.tills[j].number = fieldNat trailer 6 2 →
        s.tills[j].number = 0 ∨ 4095 < s.tills[j].number) →
      ∃ t, exec (.frameReceived .L wire) s = .next t ∧
        SettlesTo ((a.latch .lateReply).bump .lateReplies) t) ∧
    (∀ i, s.ReplyFor wire f i →
      ((s.tills[i].exchange = none ∨
          ∃ x, s.tills[i].exchange = some x ∧ (x.phase = .admitted ∨ x.phase = .awaiting ∧ ¬ names x)) →
        ∃ t, exec (.frameReceived .L wire) s = .next t ∧
          SettlesTo ((a.latch .lateReply).bump .lateReplies) t) ∧
      (∀ x, s.tills[i].exchange = some x →
        (x.phase = .verifying ∨
          x.phase = .awaiting ∧ names x ∧ (s.freeSlots = [] ∨ 64 ≤ s.occupied)) →
        ∃ t, exec (.frameReceived .L wire) s = .next t ∧ SettlesTo (a.bump .replyBusy) t) ∧
      (∀ x g rest, s.tills[i].exchange = some x → x.phase = .awaiting → names x →
        s.freeSlots = g :: rest → s.occupied < 64 →
        let target : JobTarget :=
          { till := i, slot := x.slot, bank := x.bank, generation := x.generation, counter := x.counter
            tillNumber := s.tills[i].number, frame := g }
        let k := s.bank x.slot x.bank
        ∃ t, exec (.frameReceived .L wire) s = .next t ∧
          SettlesTo
            ((({ a with
                frames := s.frames.set g f, freeSlots := rest, nextJob := s.nextJob + 1
                tills := s.tills.set i
                  { s.tills[i] with
                    exchange := some { x with phase := .verifying, verifyJob := some s.nextJob } } } :
              State).setBank x.slot x.bank { k with refs := k.refs + 1 }).enterJob
                { id := s.nextJob, work := .verify target trailer (m.length - 24) }) t))

/-- R166 to R168, R188: a management message is dropped as busy outside IDLE, and while MGU is EXECUTING so is one of the same
origin to a management port that an item of the message in hand has replaced (the origin: log entry 33); in IDLE one that fails a test of R167 is rejected, and any
other is taken with its context and its MGMT_TAG job under the key of its origin (the number that names the job: log
entry 9). -/
def Obligations.ManagementMessagesAreTakenOrDropped : Prop :=
  (∀ (s : State) (p : PortId) (wire f : Bytes), s.Arrives p wire f → s.replacedAt p f = true →
    ∃ t, exec (.frameReceived p wire) s = .next t ∧
      SettlesTo ((s.setReceive p none).bump .mgmtBusy) t) ∧
  ∀ (s : State) (p : PortId) (wire f : Bytes), s.Arrives p wire f → s.ManagementAt p f →
    let a := s.setReceive p none
    let origin : Origin := if p = .T ∧ s.bootstrap .T f = false then .store else .remote
    let key : Option Key := if origin = .store then s.mgmtKeys.lmk else some s.mgmtKeys.mtk
    (s.mgu ≠ .idle →
      ∃ t, exec (.frameReceived p wire) s = .next t ∧ SettlesTo (a.bump .mgmtBusy) t) ∧
    (s.mgu = .idle → (messageFormOk s.factory.serial (udpPayload f) = false ∨ key = none) →
      ∃ t, exec (.frameReceived p wire) s = .next t ∧
        SettlesTo
          ((({ a with mgu := .idle, message := [], context := none } : State).latch .mgmtReject).bump
            .mgmtRejected) t) ∧
    (∀ k, s.mgu = .idle → messageFormOk s.factory.serial (udpPayload f) = true → key = some k →
      ∃ t, exec (.frameReceived p wire) s = .next t ∧
        SettlesTo
          (({ a with mgu := .authenticating, message := udpPayload f } : State).withMgmtJob
            { origin := origin, port := p, senderMac := etherSource f, senderIp := ipSource f
              senderPort := udpSource f, answerIp := ipDestination f, answerPort := udpDestination f
              tagControl := tagControlOf f, key := k, sequence := 0, nextItem := 1, pendingKeys := none
              restartPending := false, replacedPorts := [], job := none } (.mgmtTag k)) t)

/-! ## Commands at the cipher lanes -/

/-- R93 to R95 with R154, R163: the current WRAP job's result is sent; taken (or discarded at a DOWN port L), its exchange becomes
AWAITING; blocked by the guard, it closes as BLOCKED with a PLAIN_NUMBER stand-in. -/
def Obligations.WrapCompletionSendsTheRequest : Prop :=
  ∀ (s : State) (l : Fin 4) (id : Nat) (g : JobTarget) (c : Capture) (d : Destination) (v : WrapValues)
    (x : Exchange),
    s.lanes[l] = some (.wrap id g c d v) → s.tills[g.till].exchange = some x → x.wrapJob = some id →
    let a := s.finishLane l
    let message := udpPayload s.frames[g.frame]
    let frame : Bytes :=
      buildUdp
        { dstMac := d.mac, srcMac := s.factory.station
          tagControl := if s.settings.lineVlan = 0 then none else some (BitVec.ofNat 16 s.settings.lineVlan)
          srcIp := s.settings.lineAddress, dstIp := d.ip, srcPort := s.settings.replyPort
          dstPort := d.port, ident := s.ident }
        (rewriteMessage c v.surrogateDigits message ++ v.header ++ v.cipherText ++ v.tag)
    let awaiting (b : State) : State :=
      (((b.setExchange g.till (some { x with phase := .awaiting, wrapJob := none })).releaseRefs x.slot
        x.bank 1).bump .wrapsSent).bumpStat g.till .wrapsSent
    let freed : State :=
      { a with
        frames := a.frames.set g.frame [], freeSlots := a.freeSlots ++ [g.frame], ident := s.ident + 1 }
    ∃ t, exec (.wrapCompletion l) s = .next t ∧
      (s.portL.link = .down → SettlesTo (awaiting freed) t) ∧
      (s.portL.link = .up → guardPasses frame = true →
        SettlesTo
          (awaiting
            (({ a with
                frames := a.frames.set g.frame frame, ident := s.ident + 1
                portL := { s.portL with ownQueue := s.portL.ownQueue ++ [.wrapped g.frame] } } :
              State).arbiter .L)) t) ∧
      (s.portL.link = .up → guardPasses frame = false →
        SettlesTo
          ((((freed.latch .guardBlock).bump .guardBlocks).closeExchange g.till 1).standIn g.till
            .plainNumber (some x.seq) x.sourcePort) t)

/-- R102, R103, R156: the current VERIFY job's pass forwards the reply and closes the exchange as DONE; its fail latches TAG_FAIL
and returns the exchange to AWAITING, or, after an expiry, closes it as LOST. -/
def Obligations.VerifyCompletionForwardsOrFails : Prop :=
  ∀ (s : State) (l : Fin 4) (id : Nat) (g : JobTarget) (trailer : Bytes) (m : Nat) (v : VerifyValues)
    (x : Exchange),
    s.lanes[l] = some (.verify id g trailer m v) → s.tills[g.till].exchange = some x →
    x.verifyJob = some id →
    let a := s.finishLane l
    let frame : Bytes :=
      buildUdp
        { dstMac := s.tills[g.till].mac, srcMac := s.factory.station
          tagControl := if s.settings.tillVlan = 0 then none else some (BitVec.ofNat 16 s.settings.tillVlan)
          srcIp := s.settings.serviceAddress, dstIp := s.tills[g.till].ip
          srcPort := s.settings.servicePort, dstPort := x.sourcePort, ident := s.ident }
        ((udpPayload s.frames[g.frame]).take m)
    let freed : State :=
      { a with frames := a.frames.set g.frame [], freeSlots := a.freeSlots ++ [g.frame] }
    let failed := (freed.latch .tagFail).bump .tagFailures
    ∃ t, exec (.verifyCompletion l) s = .next t ∧
      (v.pass = true → s.portT.link = .down →
        SettlesTo
          ((({ freed with ident := s.ident + 1 } : State).closeExchange g.till 1).bump .repliesForwarded) t) ∧
      (v.pass = true → s.portT.link = .up →
        SettlesTo
          (((({ a with
                frames := a.frames.set g.frame frame, ident := s.ident + 1
                portT := { s.portT with ownQueue := s.portT.ownQueue ++ [.forwarded g.frame] } } :
              State).arbiter .T).closeExchange g.till 1).bump .repliesForwarded) t) ∧
      (v.pass = false → x.expiredWhileVerifying = false →
        SettlesTo
          ((failed.setExchange g.till (some { x with phase := .awaiting, verifyJob := none })).releaseRefs
            x.slot x.bank 1) t) ∧
      (v.pass = false → x.expiredWhileVerifying = true →
        SettlesTo
          ((((failed.latch .replyLost).closeExchange g.till 1).bumpStat g.till .repliesLost).standIn g.till
            .replyLost (some x.seq) x.sourcePort) t)

/-- R96, R102: the result of a payment job that is no open exchange's current job is discarded; its slot is freed and its
reference released, and nothing else happens. -/
def Obligations.DetachedJobsAreDiscarded : Prop :=
  ∀ (s : State) (l : Fin 4) (id : Nat) (g : JobTarget),
    let a := s.finishLane l
    let discarded : State :=
      ({ a with frames := a.frames.set g.frame [], freeSlots := a.freeSlots ++ [g.frame] } :
        State).releaseRefs g.slot g.bank 1
    (∀ c d v, s.lanes[l] = some (.wrap id g c d v) →
      (∀ x, s.tills[g.till].exchange = some x → x.wrapJob ≠ some id) →
      ∃ t, exec (.wrapCompletion l) s = .next t ∧ SettlesTo discarded t) ∧
    (∀ trailer m v, s.lanes[l] = some (.verify id g trailer m v) →
      (∀ x, s.tills[g.till].exchange = some x → x.verifyJob ≠ some id) →
      ∃ t, exec (.verifyCompletion l) s = .next t ∧ SettlesTo discarded t)

/-- R168, R169, R174: the MGMT_TAG result accepts the message when it passes with a sequence above its origin's last accepted one,
and rejects it otherwise. -/
def Obligations.TagResultAcceptsOrRejects : Prop :=
  ∀ (s : State) (l : Fin 4) (id : Nat) (k : Key) (pass : Bool) (c : Context),
    s.lanes[l] = some (.mgmtTag id k pass) →
    (∀ (j : Fin 4) (id' : Nat) (k' : Key) (p' : Bool), j ≠ l → s.lanes[j] ≠ some (.mgmtTag id' k' p')) →
    s.mgu = .authenticating → s.context = some c →
    let a := s.finishLane l
    let n := fieldNat s.message 11 4
    let last := if c.origin = .remote then s.lastRemote else s.lastLocal
    ∃ t, exec .mgmtTagResult s = .next t ∧
      (pass = true ∧ last < n →
        SettlesTo
          (({ a with
              lastRemote := if c.origin = .remote then n else s.lastRemote
              lastLocal := if c.origin = .remote then s.lastLocal else n
              mgu := .executing, response := s.message.take 16
              context := some { c with sequence := n, nextItem := 1, job := none } } :
            State).bump .mgmtAccepted) t) ∧
      (pass = false ∨ n ≤ last →
        SettlesTo
          ((({ a with mgu := .idle, message := [], context := none } : State).latch .mgmtReject).bump
            .mgmtRejected) t)

/-- R69, R70, R130, R177: the KEY_UNWRAP result of a stage fills the STAGED bank, or the EMPTY one (A of two), or is CHECK_FAIL and
leaves the banks; that of LOAD_MGMT_KEYS becomes the pending keys, or is CHECK_FAIL. -/
def Obligations.UnwrapResultCommitsOrFails : Prop :=
  ∀ (s : State) (l : Fin 4) (id : Nat) (ktk : Key) (given : List (Key × CheckValue)) (keys : List Key)
    (pass : Bool) (c : Context) (item : Item),
    s.lanes[l] = some (.keyUnwrap id ktk given keys pass) →
    (∀ (j : Fin 4), j ≠ l → ∀ id' k' g' r' p', s.lanes[j] ≠ some (.keyUnwrap id' k' g' r' p')) →
    s.context = some c → s.itemAt = some item →
    let a := s.finishLane l
    ∃ t, exec .keyUnwrapResult s = .next t ∧
      (∀ (i : Fin 16) (generation : Byte) (code : Fin 8) (b : BankId) (w u : Key) (gw gu : Key)
        (cw cu : CheckValue),
        item.kind = 17 → s.load = .unwrapping i generation code → s.slots[i].Legal →
        keys = [w, u] → given = [(gw, cw), (gu, cu)] →
        ((s.bank i b).state = .staged ∨
          (s.bank i .A).state ≠ .staged ∧ (s.bank i .B).state ≠ .staged ∧ (s.bank i b).state = .empty ∧
            (b = .A ∨ (s.bank i .A).state ≠ .empty)) →
        pass = true →
        SettlesTo
          ((({ a with load := .none } : State).setBank i b
            { state := .staged, generation := generation, ceilingCode := code, counter := 0, wrapKey := w
              surKey := u, wrapCheck := cw, surCheck := cu, refs := 0 }).answered c item.kind .done []) t) ∧
      (∀ (i : Fin 16) (generation : Byte) (code : Fin 8),
        item.kind = 17 → s.load = .unwrapping i generation code → pass = false →
        SettlesTo (({ a with load := .none } : State).answered c item.kind .checkFail []) t) ∧
      (∀ mtk ktk', item.kind = 27 → s.load = .none → pass = true → keys = [mtk, ktk'] →
        SettlesTo
          (a.answered { c with pendingKeys := some { mtk := mtk, ktk := ktk', lmk := none } } item.kind
            .done []) t) ∧
      (∀ mtk ktk' lmk, item.kind = 27 → s.load = .none → pass = true → keys = [mtk, ktk', lmk] →
        SettlesTo
          (a.answered { c with pendingKeys := some { mtk := mtk, ktk := ktk', lmk := some lmk } } item.kind
            .done []) t) ∧
      (item.kind = 27 → s.load = .none → pass = false →
        SettlesTo (a.answered c item.kind .checkFail []) t)

/-- R174, R159, R175, R160: after the last item the response's tag job is offered under the message's verifying key; its result
places the tag, and the response is offered to the port of arrival, where a DOWN link or the guard ends it (the number
that names the job: log entry 9; a pending restart follows the block's count: log entry 16). -/
def Obligations.ResponseIsTaggedAndSent : Prop :=
  (∀ (s : State) (c : Context), s.mgu = .executing → s.context = some c → c.job = none →
    itemCount s.message < c.nextItem →
    ∃ t, exec .responseCompletion s = .next t ∧
      SettlesTo (({ s with mgu := .tagging } : State).withMgmtJob c (.responseTag c.key)) t) ∧
  (∀ (s : State) (l : Fin 4) (id : Nat) (k : Key) (tag : Bytes) (c : Context),
    s.lanes[l] = some (.responseTag id k tag) →
    (∀ (j : Fin 4) (id' : Nat) (k' : Key) (t' : Bytes), j ≠ l → s.lanes[j] ≠ some (.responseTag id' k' t')) →
    s.mgu = .tagging → s.context = some c →
    let a := s.finishLane l
    let frame : Bytes :=
      buildUdp
        { dstMac := c.senderMac, srcMac := s.factory.station, tagControl := c.tagControl
          srcIp := c.answerIp, dstIp := c.senderIp, srcPort := c.answerPort, dstPort := c.senderPort
          ident := s.ident } (s.response ++ tag)
    let ended : State :=
      { a with
        ident := s.ident + 1, mgmtKeys := c.pendingKeys.getD s.mgmtKeys
        mgu := .idle, message := [], response := [], responseFrame := [], context := none }
    ∃ t, exec .responseTagResult s = .next t ∧
      ((s.port c.port).link = .up → (c.port = .L → guardPasses frame = true) →
        SettlesTo
          ((({ a with
              ident := s.ident + 1, mgu := .answering, response := s.response ++ tag
              responseFrame := frame, context := some { c with job := none } } : State).setPort c.port
            { s.port c.port with ownQueue := (s.port c.port).ownQueue ++ [.response] }).arbiter c.port) t) ∧
      ((s.port c.port).link = .down → c.restartPending = false → SettlesTo ended t) ∧
      ((s.port c.port).link = .up → c.port = .L → guardPasses frame = false → c.restartPending = false →
        SettlesTo ((ended.latch .guardBlock).bump .guardBlocks) t) ∧
      ((s.port c.port).link = .down → c.restartPending = true →
        LosesWork { s with mgmtKeys := c.pendingKeys.getD s.mgmtKeys } t s.portT.link s.portL.link) ∧
      ((s.port c.port).link = .up → c.port = .L → guardPasses frame = false → c.restartPending = true →
        LosesWork
          { s with
            mgmtKeys := c.pendingKeys.getD s.mgmtKeys, counters := (s.bump .guardBlocks).counters } t
          s.portT.link s.portL.link))

/-! ## Item commands -/

/-- R171, R173, R202: an item its origin may not execute is NOT_PERMITTED, one of an unknown kind or a wrong body length is
BAD_VALUE, and neither has another effect than its entry. -/
def Obligations.ItemsRefusedByPermissionOrForm : Prop :=
  (∀ (s : State) (c : Context) (item : Item) (i : Instr) (n : Nat), (i, n) ∈ itemKinds → s.InHand c item →
    item.kind.toNat = n →
    (c.origin = .store → ¬ LocalMay n s.settings.localFloor item.body →
      Answers i s c item .notPermitted []) ∧
    ((c.origin = .remote ∨ LocalMay n s.settings.localFloor item.body) →
      bodyForm n item.body = some false → Answers i s c item .badValue [])) ∧
  (∀ (s : State) (c : Context) (item : Item), s.InHand c item →
    (item.kind.toNat = 0 ∨ 29 < item.kind.toNat) →
    (c.origin = .remote → Answers .unknownItemKind s c item .badValue []) ∧
    (c.origin = .store → Answers .unknownItemKind s c item .notPermitted []))

/-- R40, R42, R55, R75, R172, R181, R183, R191, R198: a read item of either origin answers with the state as it stands, or
BAD_INDEX for an index out of range, and changes nothing; and the bodies of READ_TILL, READ_SLOT and READ_DESTINATION
hold at each offset of Table 11-8 what the table gives. (That byte 25 of the READ_EVENTS body is 1 for a waiting notice
and else 0 is the model's: log entry 34.) -/
def Obligations.ReadItemsReturnTheState : Prop :=
  (∀ (i : Fin 128) (e : TillEntry),
    LaysOut (tillBytes i e) 23
      [(0, 1, i.val), (1, 1, if e.valid then 1 else 0), (2, 2, e.number), (4, 4, e.ip.toNat), (8, 6, e.mac.toNat),
        (14, 1, e.slot.val), (15, 1, e.timeoutCode.toNat), (16, 2, e.wrapsSent), (18, 2, e.refusals),
        (20, 2, e.repliesLost),
        (22, 1,
          match e.exchange.map Exchange.phase with
          | none => 0
          | some .admitted => 1
          | some .awaiting => 2
          | some .verifying => 3)]) ∧
  (∀ (i : Fin 16) (k : KeySlot),
    LaysOut (slotBytes i k) 39 ((0, 1, i.val) :: (k.a.fields 1 ++ k.b.fields 20))) ∧
  (∀ (i : Fin 4) (d : Option Destination),
    LaysOut (destinationBytes i d) 14
      [(0, 1, i.val), (1, 1, if d.isSome then 1 else 0), (2, 4, d.elim 0 (·.ip.toNat)),
        (6, 2, d.elim 0 (·.port.toNat)), (8, 6, d.elim 0 (·.mac.toNat))]) ∧
  ∀ (s : State) (c : Context) (item : Item), s.InHand c item →
    (item.kind = 1 → item.body = [] → AnswersRead .readSettings s c item (settingsBytes s.settings)) ∧
    (item.kind = 21 → item.body = [] →
      AnswersRead .readEvents s c item
        (beBytes 3 (bitsToNat s.status) ++ beBytes 3 (bitsToNat s.enables) ++
          s.eventMap.toList.map optionByte ++
          [if s.attention then 1 else 0, if s.noticeWaiting.isSome then 1 else 0])) ∧
    (item.kind = 25 → item.body = [] →
      AnswersRead .readCounters s c item (s.counters.toList.flatMap (beBytes 4))) ∧
    (∀ n : Byte, item.body = [n] →
      (item.kind = 3 → (∀ i : Fin 128, n.toNat = i.val →
        AnswersRead .readTill s c item (tillBytes i s.tills[i])) ∧
          (128 ≤ n.toNat → Answers .readTill s c item .badIndex [])) ∧
      (item.kind = 6 → (∀ i : Fin 16, n.toNat = i.val →
        AnswersRead .readRule s c item (ruleBytes i s.rules[i])) ∧
          (16 ≤ n.toNat → Answers .readRule s c item .badIndex [])) ∧
      (item.kind = 9 → (∀ i : Fin 8, n.toNat = i.val →
        AnswersRead .readLocator s c item (locatorBytes i s.locators[i])) ∧
          (8 ≤ n.toNat → Answers .readLocator s c item .badIndex [])) ∧
      (item.kind = 12 → (∀ i : Fin 4, n.toNat = i.val →
        AnswersRead .readDestination s c item (destinationBytes i s.destinations[i])) ∧
          (4 ≤ n.toNat → Answers .readDestination s c item .badIndex [])) ∧
      (item.kind = 15 → (∀ i : Fin 16, n.toNat = i.val →
        AnswersRead .readSlot s c item (slotBytes i s.slots[i])) ∧
          (16 ≤ n.toNat → Answers .readSlot s c item .badIndex [])))

/-- R181, R183: WRITE_SETTINGS takes every value in one step or is BAD_VALUE; WRITE_DESTINATION sets a record and
CLEAR_DESTINATION makes one not set, or is BAD_INDEX. (That the message context remembers the management port which
WRITE_SETTINGS replaces, in replacedPorts, is the model's own form: log entry 33.) -/
def Obligations.SettingsAndDestinationsAreWritten : Prop :=
  ∀ (s : State) (c : Context) (item : Item) (b : Bytes),
    (s.RemoteItem c item 2 b → b.length = 25 →
      let ok : Prop := (byteAt b 21 = 0 ∨ byteAt b 21 = 1) ∧ fieldNat b 17 2 ≤ 4094 ∧ fieldNat b 19 2 ≤ 4094 ∧
        ((byteAt b 16).toNat ≤ 3 ∨ byteAt b 16 = 0xFF)
      let port : UdpPort := BitVec.ofNat 16 (fieldNat b 12 2)
      let replaced := if port = s.settings.managementPort then c.replacedPorts
        else s.settings.managementPort :: c.replacedPorts
      (ok → ∃ t, exec .writeSettings s = .next t ∧
        SettlesTo
          { s.answered { c with replacedPorts := replaced } item.kind .done [] with
            settings :=
              { serviceAddress := BitVec.ofNat 32 (fieldNat b 0 4)
                servicePort := BitVec.ofNat 16 (fieldNat b 4 2)
                lineAddress := BitVec.ofNat 32 (fieldNat b 6 4)
                replyPort := BitVec.ofNat 16 (fieldNat b 10 2)
                managementPort := port
                noticePort := BitVec.ofNat 16 (fieldNat b 14 2)
                noticeDestination :=
                  if h : (byteAt b 16).toNat < 4 then some ⟨(byteAt b 16).toNat, h⟩ else none
                tillVlan := fieldNat b 17 2, lineVlan := fieldNat b 19 2
                bridgeMode := if byteAt b 21 = 1 then .guarded else .closed
                warnMargin := fieldNat b 22 2, localFloor := min (byteAt b 24).toNat 128 } } t) ∧
      (¬ ok → Answers .writeSettings s c item .badValue [])) ∧
    (s.RemoteItem c item 13 b → b.length = 13 →
      (∀ i : Fin 4, (byteAt b 0).toNat = i.val →
        ∃ t, exec .writeDestination s = .next t ∧
          SettlesTo
            { s.answered c item.kind .done [] with
              destinations := s.destinations.set i
                (some
                  { ip := BitVec.ofNat 32 (fieldNat b 1 4), port := BitVec.ofNat 16 (fieldNat b 5 2)
                    mac := BitVec.ofNat 48 (fieldNat b 7 6) }) } t) ∧
      (4 ≤ (byteAt b 0).toNat → Answers .writeDestination s c item .badIndex [])) ∧
    (s.RemoteItem c item 14 b → b.length = 1 →
      (∀ i : Fin 4, (byteAt b 0).toNat = i.val →
        ∃ t, exec .clearDestination s = .next t ∧
          SettlesTo
            { s.answered c item.kind .done [] with destinations := s.destinations.set i none } t) ∧
      (4 ≤ (byteAt b 0).toNat → Answers .clearDestination s c item .badIndex []))

/-- R52 to R54: WRITE_TILL's checks in their order; a write closes the entry's exchange silently, keeps the statistics of the
same till number, else zeroes them; CLEAR_TILL closes and makes the entry cold. -/
def Obligations.TillItemsCheckCloseAndWrite : Prop :=
  ∀ (s : State) (c : Context) (item : Item), s.InHand c item →
    (c.origin = .remote ∨ s.settings.localFloor ≤ (byteAt item.body 0).toNat) →
    (item.kind = 4 → item.body.length = 15 →
      (128 ≤ (byteAt item.body 0).toNat → Answers .writeTill s c item .badIndex []) ∧
      (∀ i : Fin 128, (byteAt item.body 0).toNat = i.val →
        let number := fieldNat item.body 1 2
        let ip : Ip := BitVec.ofNat 32 (fieldNat item.body 3 4)
        let kept : Bool := s.tills[i].valid && s.tills[i].number == number
        let taken : Prop := ∃ j : Fin 128, j ≠ i ∧ s.tills[j].valid = true ∧
          (s.tills[j].ip = ip ∨ s.tills[j].number = number)
        ((number = 0 ∨ 4095 < number ∨ 16 ≤ (byteAt item.body 13).toNat) →
          Answers .writeTill s c item .badValue []) ∧
        (∀ k : Fin 16, 1 ≤ number → number ≤ 4095 → (byteAt item.body 13).toNat = k.val →
          (taken → Answers .writeTill s c item .duplicate []) ∧
          (¬ taken →
            ∃ t, exec .writeTill s = .next t ∧
              let a := s.closeExchange i 0
              SettlesTo
                { a.answered c item.kind .done [] with
                  tills := a.tills.set i
                    { valid := true, number := number, ip := ip
                      mac := BitVec.ofNat 48 (fieldNat item.body 7 6), slot := k
                      timeoutCode := byteAt item.body 14
                      wrapsSent := if kept then s.tills[i].wrapsSent else 0
                      refusals := if kept then s.tills[i].refusals else 0
                      repliesLost := if kept then s.tills[i].repliesLost else 0
                      exchange := none } } t)))) ∧
    (item.kind = 5 → item.body.length = 1 →
      (128 ≤ (byteAt item.body 0).toNat → Answers .clearTill s c item .badIndex []) ∧
      (∀ i : Fin 128, (byteAt item.body 0).toNat = i.val →
        ∃ t, exec .clearTill s = .next t ∧
          let a := s.closeExchange i 0
          SettlesTo
            { a.answered c item.kind .done [] with tills := a.tills.set i TillEntry.cold } t))

/-- R39 to R42: a rule is replaced as a whole unless a value is out of range or it is valid and names an invalid locator; a
locator unless a value is out of range or a valid rule would be left naming an invalid one; a clear makes the entry
cold. -/
def Obligations.RuleAndLocatorItemsReplaceTheEntry : Prop :=
  ∀ (s : State) (c : Context) (item : Item) (b : Bytes),
    (s.RemoteItem c item 7 b → 5 ≤ b.length → b.length = 5 + 4 * (byteAt b 4).toNat →
      (16 ≤ (byteAt b 0).toNat → Answers .writeRule s c item .badIndex []) ∧
      (∀ i : Fin 16, (byteAt b 0).toNat = i.val →
        let probe (n : Nat) : Probe :=
          { offset := fieldNat b (5 + 4 * n) 2, value := byteAt b (7 + 4 * n), mask := byteAt b (8 + 4 * n) }
        let probes := (List.range (byteAt b 4).toNat).map probe
        let inRange : Prop := (byteAt b 4).toNat ≤ 8 ∧ (∀ p ∈ probes, p.offset ≤ 1023) ∧
          (byteAt b 2).toNat ≤ 7 ∧ (byteAt b 3).toNat ≤ 3 ∧ (byteAt b 1 = 0 ∨ byteAt b 1 = 1)
        (¬ inRange → Answers .writeRule s c item .badValue []) ∧
        (∀ (k : Fin 8) (r : Fin 4), inRange → (byteAt b 2).toNat = k.val → (byteAt b 3).toNat = r.val →
          (byteAt b 1 = 1 → s.locators[k].valid = false → Answers .writeRule s c item .badValue []) ∧
          ((byteAt b 1 = 0 ∨ s.locators[k].valid = true) →
            ∃ t, exec .writeRule s = .next t ∧
              SettlesTo
                { s.answered c item.kind .done [] with
                  rules := s.rules.set i
                    { valid := byteAt b 1 == 1, probes := probes, locator := k, route := r } } t)))) ∧
    (s.RemoteItem c item 8 b → b.length = 1 →
      (16 ≤ (byteAt b 0).toNat → Answers .clearRule s c item .badIndex []) ∧
      (∀ i : Fin 16, (byteAt b 0).toNat = i.val →
        ∃ t, exec .clearRule s = .next t ∧
          SettlesTo { s.answered c item.kind .done [] with rules := s.rules.set i Rule.cold } t)) ∧
    (s.RemoteItem c item 10 b → b.length = 21 →
      (8 ≤ (byteAt b 0).toNat → Answers .writeLocator s c item .badIndex []) ∧
      (∀ i : Fin 8, (byteAt b 0).toNat = i.val →
        let named : Prop := ∃ j : Fin 16, s.rules[j].valid = true ∧ s.rules[j].locator = i
        let flag (n : Nat) : Prop := byteAt b n = 0 ∨ byteAt b n = 1
        let inRange : Prop :=
          flag 1 ∧ flag 5 ∧ flag 14 ∧ flag 15 ∧
            ((byteAt b 4).toNat = 1 ∨ (byteAt b 4).toNat = 2 ∨ (byteAt b 4).toNat = 4) ∧
            fieldNat b 2 2 ≤ 1023 ∧ fieldNat b 10 2 ≤ 1023 ∧ fieldNat b 12 2 ≤ 1023 ∧
            (byteAt b 5 = 1 → fieldNat b 6 2 ≤ 1023 ∧ (byteAt b 8).toNat ≤ 7) ∧
            (byteAt b 15 = 1 → fieldNat b 16 2 ≤ 1023 ∧ fieldNat b 18 2 ≤ 1023)
        (¬ inRange → Answers .writeLocator s c item .badValue []) ∧
        (inRange → byteAt b 1 = 0 → named → Answers .writeLocator s c item .inUse []) ∧
        (inRange → (byteAt b 1 = 1 ∨ ¬ named) →
          ∃ t, exec .writeLocator s = .next t ∧
            SettlesTo
              { s.answered c item.kind .done [] with
                locators := s.locators.set i
                  { valid := byteAt b 1 == 1, seqOffset := fieldNat b 2 2, seqWidth := (byteAt b 4).toNat
                    indicator :=
                      if byteAt b 5 = 1 then
                        some
                          { offset := fieldNat b 6 2, bit := Fin.ofNat 8 (byteAt b 8).toNat
                            invert := byteAt b 9 != 0 }
                      else none
                    panLengthOffset := fieldNat b 10 2, panOffset := fieldNat b 12 2
                    encoding := if byteAt b 14 = 1 then .packed else .ascii
                    companion :=
                      if byteAt b 15 = 1 then
                        some { lengthOffset := fieldNat b 16 2, dataOffset := fieldNat b 18 2 }
                      else none
                    fill := byteAt b 20 } } t))) ∧
    (s.RemoteItem c item 11 b → b.length = 1 →
      (8 ≤ (byteAt b 0).toNat → Answers .clearLocator s c item .badIndex []) ∧
      (∀ i : Fin 8, (byteAt b 0).toNat = i.val →
        let named : Prop := ∃ j : Fin 16, s.rules[j].valid = true ∧ s.rules[j].locator = i
        (named → Answers .clearLocator s c item .inUse []) ∧
        (¬ named →
          ∃ t, exec .clearLocator s = .next t ∧
            SettlesTo
              { s.answered c item.kind .done [] with locators := s.locators.set i Locator.cold } t)))

/-- R66, R67, R179: STAGE_OPEN's checks in their order, the first failure giving the result; all passed, the load state is OPENED
and no bank changes. -/
def Obligations.StageOpenChecksInOrder : Prop :=
  ∀ (s : State) (c : Context) (item : Item) (b : Bytes), s.RemoteItem c item 16 b → b.length = 3 →
    (16 ≤ (byteAt b 0).toNat → Answers .stageOpen s c item .badIndex []) ∧
    (∀ i : Fin 16, (byteAt b 0).toNat = i.val →
      let live (x : BankId) : Prop := (s.bank i x).state = .live
      let draining (x : BankId) : Prop := (s.bank i x).state = .draining
      let paired : Prop := ∃ next, (messageItems s.message)[c.nextItem]? = some next ∧ next.kind = 17 ∧
        next.body.head? = some (byteAt b 0)
      let busy : Prop := live .A ∧ draining .B ∨ draining .A ∧ live .B
      let used : Prop := ∃ x, (live x ∨ draining x) ∧ (s.bank i x).generation = byteAt b 1
      ((byteAt b 1 = 0 ∨ 8 ≤ (byteAt b 2).toNat) → Answers .stageOpen s c item .badValue []) ∧
      (∀ k : Fin 8, byteAt b 1 ≠ 0 → (byteAt b 2).toNat = k.val →
        (¬ paired → Answers .stageOpen s c item .pairBroken []) ∧
        (paired → busy → Answers .stageOpen s c item .slotBusy []) ∧
        (paired → ¬ busy → used → Answers .stageOpen s c item .sameGeneration []) ∧
        (paired → ¬ busy → ¬ used →
          ∃ t, exec .stageOpen s = .next t ∧
            SettlesTo
              { s.answered c item.kind .done [] with load := .opened i (byteAt b 1) k } t)))

/-- R68, R177, R113, R130: STAGE_KEYS with the slot's stage open, and LOAD_MGMT_KEYS, offer their KEY_UNWRAP job under the KTK as it
stands and have no result yet; STAGE_KEYS without it is PAIR_BROKEN. -/
def Obligations.KeyItemsOfferTheirUnwrapJob : Prop :=
  ∀ (s : State) (c : Context) (item : Item) (b : Bytes),
    let key (o : Nat) : Key × CheckValue :=
      (BitVec.ofNat 128 (fieldNat b o 16), BitVec.ofNat 24 (fieldNat b (o + 16) 3))
    (s.RemoteItem c item 17 b → b.length = 39 →
      (16 ≤ (byteAt b 0).toNat → Answers .stageKeys s c item .badIndex []) ∧
      (∀ i : Fin 16, (byteAt b 0).toNat = i.val →
        ((∀ generation code, s.load ≠ .opened i generation code) →
          (∀ j generation code, s.load ≠ .unwrapping j generation code) →
          Answers .stageKeys s c item .pairBroken []) ∧
        (∀ generation code, s.load = .opened i generation code →
          ∃ t, exec .stageKeys s = .next t ∧
            SettlesTo
              (({ s with load := .unwrapping i generation code } : State).withMgmtJob c
                (.keyUnwrap s.mgmtKeys.ktk [key 1, key 20])) t))) ∧
    (s.RemoteItem c item 27 b → b.length = 58 →
      ∃ t, exec .loadMgmtKeys s = .next t ∧
        SettlesTo
          (({ s with load := s.load.dropped } : State).withMgmtJob c
            (.keyUnwrap s.mgmtKeys.ktk
              (if byteAt b 0 = 0 then [key 1, key 20] else [key 1, key 20, key 39]))) t)

/-- R72, R73, R64: SWITCH makes the STAGED bank LIVE and gives up a LIVE one; RETIRE gives up the LIVE bank; given up, a bank is
DRAINING while it holds references, else EMPTY; the other outcomes change nothing. -/
def Obligations.SwitchAndRetireGiveUpTheLiveBank : Prop :=
  ∀ (s : State) (c : Context) (item : Item) (n : Byte),
    let given (x : KeyBank) : KeyBank :=
      if x.refs = 0 then KeyBank.cleared else { x with state := .draining }
    (s.RemoteItem c item 18 [n] →
      (16 ≤ n.toNat → Answers .switch s c item .badIndex []) ∧
      (∀ i : Fin 16, n.toNat = i.val → s.slots[i].Legal →
        ((∀ x, (s.bank i x).state ≠ .staged) → Answers .switch s c item .nothingStaged []) ∧
        (∀ x y : BankId, x ≠ y → (s.bank i x).state = .staged →
          ∃ t, exec .switch s = .next t ∧
            SettlesTo
              (((s.answered c item.kind .done []).setBank i x { s.bank i x with state := .live }).setBank i y
                (if (s.bank i y).state = .live then given (s.bank i y) else s.bank i y)) t))) ∧
    (s.RemoteItem c item 19 [n] →
      (16 ≤ n.toNat → Answers .retire s c item .badIndex []) ∧
      (∀ i : Fin 16, n.toNat = i.val → s.slots[i].Legal →
        ((∀ x, (s.bank i x).state ≠ .live) → Answers .retire s c item .nothingLive []) ∧
        (∀ x y : BankId, x ≠ y → (s.bank i x).state = .live →
          ((s.bank i y).state = .draining → Answers .retire s c item .slotBusy []) ∧
          ((s.bank i y).state ≠ .draining →
            ∃ t, exec .retire s = .next t ∧
              SettlesTo ((s.answered c item.kind .done []).setBank i x (given (s.bank i x))) t))))

/-- R74: DISCARD_STAGE empties the slot's STAGED bank, or is NOTHING_STAGED; the other bank is not touched. -/
def Obligations.DiscardStageEmptiesTheStagedBank : Prop :=
  ∀ (s : State) (c : Context) (item : Item) (n : Byte), s.RemoteItem c item 20 [n] →
    (16 ≤ n.toNat → Answers .discardStage s c item .badIndex []) ∧
    (∀ i : Fin 16, n.toNat = i.val → s.slots[i].Legal →
      ((∀ x, (s.bank i x).state ≠ .staged) → Answers .discardStage s c item .nothingStaged []) ∧
      (∀ x : BankId, (s.bank i x).state = .staged →
        ∃ t, exec .discardStage s = .next t ∧
          SettlesTo
            ((s.answered c item.kind .done []).setBank i x
              { state := .empty, generation := 0, ceilingCode := 0, counter := 0, wrapKey := 0, surKey := 0
                wrapCheck := 0, surCheck := 0, refs := 0 }) t))

/-- R191 to R193, R198: CLEAR_EVENTS (of either origin) clears the named statuses, a level status whose condition holds staying set;
the map and the enables are replaced as a whole; CLEAR_COUNTERS makes every counter and statistic 0. -/
def Obligations.EventAndCounterItems : Prop :=
  ∀ (s : State) (c : Context) (item : Item), s.InHand c item →
    (item.kind = 24 → item.body.length = 3 →
      ∃ t, exec .clearEvents s = .next t ∧
        ∃ v : Vector Bool 18, SettlesTo { s.answered c item.kind .done [] with status := v } t ∧
          ∀ e : Fin 18, v[e] = (s.status[e] && !(fieldNat item.body 0 3).testBit e.val)) ∧
    (c.origin = .remote → item.kind = 23 → item.body.length = 3 →
      ∃ t, exec .writeEventEnables s = .next t ∧
        ∃ v : Vector Bool 18, SettlesTo { s.answered c item.kind .done [] with enables := v } t ∧
          ∀ e : Fin 18, v[e] = (fieldNat item.body 0 3).testBit e.val) ∧
    (c.origin = .remote → item.kind = 22 → item.body.length = 18 →
      let slotOf (e : Fin 18) : Byte := byteAt item.body e.val
      let inRange : Prop := ∀ e, (slotOf e).toNat ≤ 23 ∨ slotOf e = 0xFF
      let shared : Prop := ∃ d e, d ≠ e ∧ slotOf d = slotOf e ∧ slotOf d ≠ 0xFF
      (¬ inRange → Answers .writeEventMap s c item .badValue []) ∧
      (inRange → shared → Answers .writeEventMap s c item .slotShared []) ∧
      (inRange → ¬ shared →
        ∃ t, exec .writeEventMap s = .next t ∧
          ∃ v : Vector (Option (Fin 24)) 18, SettlesTo { s.answered c item.kind .done [] with eventMap := v } t ∧
            ∀ e : Fin 18, (v[e]).map (·.val) = if slotOf e = 0xFF then none else some (slotOf e).toNat)) ∧
    (c.origin = .remote → item.kind = 26 → item.body = [] →
      ∃ t, exec .clearCounters s = .next t ∧
        SettlesTo
          { s.answered c item.kind .done [] with
            counters := Vector.replicate 33 0
            tills := s.tills.map fun e => { e with wrapsSent := 0, refusals := 0, repliesLost := 0 } } t)

/-- R184, R174, R185 with R23, R71, R79, R86, R132, R176, R178, R199: RESTART is DONE, every item after it gets a NOT_EXECUTED
entry, restart pending is set, and the response's tag job is offered at once; ERASE takes an erase within its
own execution, is DONE, and execution goes on. -/
def Obligations.RestartAndEraseItems : Prop :=
  ∀ (s : State) (c : Context) (item : Item),
    (s.RemoteItem c item 28 [] →
      let rest := (messageItems s.message).drop c.nextItem
      ∃ t, exec .restart s = .next t ∧
        SettlesTo
          (({ s with
              load := s.load.dropped, mgu := .tagging
              response := s.response ++ [28, 0, 0, 0] ++ rest.flatMap fun i => [i.kind, 13, 0, 0] } :
            State).withMgmtJob
              { c with nextItem := c.nextItem + 1 + rest.length, restartPending := true, job := none }
              (.responseTag c.key)) t) ∧
    (s.RemoteItem c item 29 [] →
      ∃ t, exec .erase s = .next t ∧
        SettlesTo
          (s.erasedStore.erasedEnd.answered { c with pendingKeys := none } item.kind .done []) t)

/-! ## Constructions -/

/-- R142 with R137 to R141: the surrogate of a PAN of 13 to 19 digits is its candidate, the middle digits raised by the bytes of
E(K_sur, B), or where that passes the mod-10 check the candidate with its last middle digit raised by 1; it has the
PAN's length, its first six and last four digits, and fails the check, so that it differs from a PAN that passes. -/
def Obligations.SurrogateKeepsTheEndsAndFailsTheCheck : Prop :=
  ∀ (k : Key) (ds : List Digit), 13 ≤ ds.length → ds.length ≤ 19 →
    let r := (surrogateWork k ds).surrogate
    let stream := blockBytes (cipherE k (blockOfBytes
      (((ds.take 6 ++ ds.drop (ds.length - 4)).map fun d => BitVec.ofNat 8 d.val) ++
        [BitVec.ofNat 8 ds.length, 0, 0, 0, 0, 0])))
    let candidate : List Digit := ds.mapIdx fun n d =>
      if 6 ≤ n ∧ n < ds.length - 4 then Fin.ofNat 10 (d.val + (byteAt stream (n - 6)).toNat) else d
    r = (if mod10Passes candidate = true then
          candidate.mapIdx fun n d => if n = ds.length - 5 then d + 1 else d
        else candidate) ∧
      r.length = ds.length ∧ r.take 6 = ds.take 6 ∧ r.drop (ds.length - 4) = ds.drop (ds.length - 4) ∧
      mod10Passes r = false ∧ (mod10Passes ds = true → r ≠ ds)

/-- R161, R162: the guard blocks a frame exactly when the bytes after its header hold a run of 13 to 19 digit bytes, bounded on both
sides by other bytes or the ends, whose digits pass the mod-10 check. -/
def Obligations.GuardBlocksExactlyPassingRuns : Prop :=
  ∀ f : Bytes, guardPasses f = false ↔
    ∃ pre run post : Bytes, f.drop (if fieldNat f 12 2 = 0x8100 then 18 else 14) = pre ++ run ++ post ∧
      13 ≤ run.length ∧ run.length ≤ 19 ∧ (∀ b ∈ run, 0x30 ≤ b.toNat ∧ b.toNat ≤ 0x39) ∧
      (∀ b ∈ pre.getLast?, ¬ (0x30 ≤ b.toNat ∧ b.toNat ≤ 0x39)) ∧
      (∀ b ∈ post.head?, ¬ (0x30 ≤ b.toNat ∧ b.toNat ≤ 0x39)) ∧
      mod10Passes (run.map fun b => Fin.ofNat 10 (b.toNat - 0x30)) = true

/-- R149 to R151 against R10, R11: every datagram FRW builds with at most 1472 payload bytes passes the acceptance checks, and the
addresses, ports, tag and payload read from it are those it was built with. -/
def Obligations.BuiltDatagramsPassTheAcceptanceChecks : Prop :=
  ∀ (h : UdpHeaders) (m : Bytes), m.length ≤ 1472 →
    let f := buildUdp h m
    acceptsFrame f = true ∧ etherDestination f = h.dstMac ∧ etherSource f = h.srcMac ∧
      etherType f = 0x0800 ∧ tagControlOf f = h.tagControl ∧ ipProtocol f = 17 ∧ ipSource f = h.srcIp ∧
      ipDestination f = h.dstIp ∧ udpSource f = h.srcPort ∧ udpDestination f = h.dstPort ∧
      udpPayload f = m ∧ ipField f 26 2 ≠ 0

/-- R40, R42, R181 against R39, R41, R181: the bodies in which READ_SETTINGS, READ_RULE and READ_LOCATOR return an entry, given to
the write item, give the entry back. -/
def Obligations.WrittenBodiesReadBack : Prop :=
  (∀ x : Settings, x.tillVlan ≤ 4094 → x.lineVlan ≤ 4094 → x.warnMargin ≤ 65535 → x.localFloor ≤ 128 →
    parseSettings (settingsBytes x) = some x ∧ (settingsBytes x).length = 25) ∧
  (∀ (i : Fin 16) (r : Rule), r.probes.length ≤ 8 → (∀ p ∈ r.probes, p.offset ≤ 1023) →
    parseRule (ruleBytes i r) = some r ∧ bodyForm 7 (ruleBytes i r) = some true) ∧
  (∀ (i : Fin 8) (l : Locator), (l.seqWidth = 1 ∨ l.seqWidth = 2 ∨ l.seqWidth = 4) → l.seqOffset ≤ 1023 →
    l.panLengthOffset ≤ 1023 → l.panOffset ≤ 1023 → (∀ d ∈ l.indicator, d.offset ≤ 1023) →
    (∀ k ∈ l.companion, k.lengthOffset ≤ 1023 ∧ k.dataOffset ≤ 1023) →
    parseLocator (locatorBytes i l) = some l ∧ (locatorBytes i l).length = 21)
end

