-- ==== Sys2Proof/Laws/State.lean ====
section
/-! SUPPORT. The small lemmas of the state's setters: one for each field each setter leaves alone, and one for
what it writes, each true by `rfl`, so that no later proof unfolds a record update. -/

namespace Sys2Proof.Machine

variable (s : State)

/-! ## A port replaced -/

@[simp] theorem State.setPort_pending (p : PortId) (x : PortState) :
    (s.setPort p x).pending = s.pending := by cases p <;> rfl
@[simp] theorem State.setPort_factory (p : PortId) (x : PortState) :
    (s.setPort p x).factory = s.factory := by cases p <;> rfl
@[simp] theorem State.setPort_storeValid (p : PortId) (x : PortState) :
    (s.setPort p x).storeValid = s.storeValid := by cases p <;> rfl
@[simp] theorem State.setPort_eraseLine (p : PortId) (x : PortState) :
    (s.setPort p x).eraseLine = s.eraseLine := by cases p <;> rfl
@[simp] theorem State.setPort_uptime (p : PortId) (x : PortState) :
    (s.setPort p x).uptime = s.uptime := by cases p <;> rfl
@[simp] theorem State.setPort_rules (p : PortId) (x : PortState) :
    (s.setPort p x).rules = s.rules := by cases p <;> rfl
@[simp] theorem State.setPort_locators (p : PortId) (x : PortState) :
    (s.setPort p x).locators = s.locators := by cases p <;> rfl
@[simp] theorem State.setPort_tills (p : PortId) (x : PortState) :
    (s.setPort p x).tills = s.tills := by cases p <;> rfl
@[simp] theorem State.setPort_slots (p : PortId) (x : PortState) :
    (s.setPort p x).slots = s.slots := by cases p <;> rfl
@[simp] theorem State.setPort_load (p : PortId) (x : PortState) :
    (s.setPort p x).load = s.load := by cases p <;> rfl
@[simp] theorem State.setPort_waiting (p : PortId) (x : PortState) :
    (s.setPort p x).waiting = s.waiting := by cases p <;> rfl
@[simp] theorem State.setPort_lanes (p : PortId) (x : PortState) :
    (s.setPort p x).lanes = s.lanes := by cases p <;> rfl
@[simp] theorem State.setPort_mgmtWaiting (p : PortId) (x : PortState) :
    (s.setPort p x).mgmtWaiting = s.mgmtWaiting := by cases p <;> rfl
@[simp] theorem State.setPort_nextJob (p : PortId) (x : PortState) :
    (s.setPort p x).nextJob = s.nextJob := by cases p <;> rfl
@[simp] theorem State.setPort_frames (p : PortId) (x : PortState) :
    (s.setPort p x).frames = s.frames := by cases p <;> rfl
@[simp] theorem State.setPort_freeSlots (p : PortId) (x : PortState) :
    (s.setPort p x).freeSlots = s.freeSlots := by cases p <;> rfl
@[simp] theorem State.setPort_standIns (p : PortId) (x : PortState) :
    (s.setPort p x).standIns = s.standIns := by cases p <;> rfl
@[simp] theorem State.setPort_ident (p : PortId) (x : PortState) :
    (s.setPort p x).ident = s.ident := by cases p <;> rfl
@[simp] theorem State.setPort_mgu (p : PortId) (x : PortState) :
    (s.setPort p x).mgu = s.mgu := by cases p <;> rfl
@[simp] theorem State.setPort_message (p : PortId) (x : PortState) :
    (s.setPort p x).message = s.message := by cases p <;> rfl
@[simp] theorem State.setPort_response (p : PortId) (x : PortState) :
    (s.setPort p x).response = s.response := by cases p <;> rfl
@[simp] theorem State.setPort_responseFrame (p : PortId) (x : PortState) :
    (s.setPort p x).responseFrame = s.responseFrame := by cases p <;> rfl
@[simp] theorem State.setPort_context (p : PortId) (x : PortState) :
    (s.setPort p x).context = s.context := by cases p <;> rfl
@[simp] theorem State.setPort_mgmtKeys (p : PortId) (x : PortState) :
    (s.setPort p x).mgmtKeys = s.mgmtKeys := by cases p <;> rfl
@[simp] theorem State.setPort_lastRemote (p : PortId) (x : PortState) :
    (s.setPort p x).lastRemote = s.lastRemote := by cases p <;> rfl
@[simp] theorem State.setPort_lastLocal (p : PortId) (x : PortState) :
    (s.setPort p x).lastLocal = s.lastLocal := by cases p <;> rfl
@[simp] theorem State.setPort_settings (p : PortId) (x : PortState) :
    (s.setPort p x).settings = s.settings := by cases p <;> rfl
@[simp] theorem State.setPort_destinations (p : PortId) (x : PortState) :
    (s.setPort p x).destinations = s.destinations := by cases p <;> rfl
@[simp] theorem State.setPort_status (p : PortId) (x : PortState) :
    (s.setPort p x).status = s.status := by cases p <;> rfl
@[simp] theorem State.setPort_enables (p : PortId) (x : PortState) :
    (s.setPort p x).enables = s.enables := by cases p <;> rfl
@[simp] theorem State.setPort_eventMap (p : PortId) (x : PortState) :
    (s.setPort p x).eventMap = s.eventMap := by cases p <;> rfl
@[simp] theorem State.setPort_noticeWaiting (p : PortId) (x : PortState) :
    (s.setPort p x).noticeWaiting = s.noticeWaiting := by cases p <;> rfl
@[simp] theorem State.setPort_noticeSending (p : PortId) (x : PortState) :
    (s.setPort p x).noticeSending = s.noticeSending := by cases p <;> rfl
@[simp] theorem State.setPort_counters (p : PortId) (x : PortState) :
    (s.setPort p x).counters = s.counters := by cases p <;> rfl
@[simp] theorem State.setPort_port (p : PortId) (x : PortState) : (s.setPort p x).port p = x := by
  cases p <;> rfl
@[simp] theorem State.setPort_T_portT (x : PortState) : (s.setPort .T x).portT = x := rfl
@[simp] theorem State.setPort_L_portL (x : PortState) : (s.setPort .L x).portL = x := rfl
@[simp] theorem State.setPort_T_portL (x : PortState) : (s.setPort .T x).portL = s.portL := rfl
@[simp] theorem State.setPort_L_portT (x : PortState) : (s.setPort .L x).portT = s.portT := rfl
@[simp] theorem State.setPort_port_other (p : PortId) (x : PortState) :
    (s.setPort p x).port (otherPort p) = s.port (otherPort p) := by cases p <;> rfl

/-! ## A bank replaced -/

@[simp] theorem State.setBank_pending (k : Fin 16) (b : BankId) (x : KeyBank) :
    (s.setBank k b x).pending = s.pending := rfl
@[simp] theorem State.setBank_factory (k : Fin 16) (b : BankId) (x : KeyBank) :
    (s.setBank k b x).factory = s.factory := rfl
@[simp] theorem State.setBank_storeValid (k : Fin 16) (b : BankId) (x : KeyBank) :
    (s.setBank k b x).storeValid = s.storeValid := rfl
@[simp] theorem State.setBank_eraseLine (k : Fin 16) (b : BankId) (x : KeyBank) :
    (s.setBank k b x).eraseLine = s.eraseLine := rfl
@[simp] theorem State.setBank_uptime (k : Fin 16) (b : BankId) (x : KeyBank) :
    (s.setBank k b x).uptime = s.uptime := rfl
@[simp] theorem State.setBank_portT (k : Fin 16) (b : BankId) (x : KeyBank) :
    (s.setBank k b x).portT = s.portT := rfl
@[simp] theorem State.setBank_portL (k : Fin 16) (b : BankId) (x : KeyBank) :
    (s.setBank k b x).portL = s.portL := rfl
@[simp] theorem State.setBank_rules (k : Fin 16) (b : BankId) (x : KeyBank) :
    (s.setBank k b x).rules = s.rules := rfl
@[simp] theorem State.setBank_locators (k : Fin 16) (b : BankId) (x : KeyBank) :
    (s.setBank k b x).locators = s.locators := rfl
@[simp] theorem State.setBank_tills (k : Fin 16) (b : BankId) (x : KeyBank) :
    (s.setBank k b x).tills = s.tills := rfl
@[simp] theorem State.setBank_load (k : Fin 16) (b : BankId) (x : KeyBank) :
    (s.setBank k b x).load = s.load := rfl
@[simp] theorem State.setBank_waiting (k : Fin 16) (b : BankId) (x : KeyBank) :
    (s.setBank k b x).waiting = s.waiting := rfl
@[simp] theorem State.setBank_lanes (k : Fin 16) (b : BankId) (x : KeyBank) :
    (s.setBank k b x).lanes = s.lanes := rfl
@[simp] theorem State.setBank_mgmtWaiting (k : Fin 16) (b : BankId) (x : KeyBank) :
    (s.setBank k b x).mgmtWaiting = s.mgmtWaiting := rfl
@[simp] theorem State.setBank_nextJob (k : Fin 16) (b : BankId) (x : KeyBank) :
    (s.setBank k b x).nextJob = s.nextJob := rfl
@[simp] theorem State.setBank_frames (k : Fin 16) (b : BankId) (x : KeyBank) :
    (s.setBank k b x).frames = s.frames := rfl
@[simp] theorem State.setBank_freeSlots (k : Fin 16) (b : BankId) (x : KeyBank) :
    (s.setBank k b x).freeSlots = s.freeSlots := rfl
@[simp] theorem State.setBank_standIns (k : Fin 16) (b : BankId) (x : KeyBank) :
    (s.setBank k b x).standIns = s.standIns := rfl
@[simp] theorem State.setBank_ident (k : Fin 16) (b : BankId) (x : KeyBank) :
    (s.setBank k b x).ident = s.ident := rfl
@[simp] theorem State.setBank_mgu (k : Fin 16) (b : BankId) (x : KeyBank) :
    (s.setBank k b x).mgu = s.mgu := rfl
@[simp] theorem State.setBank_message (k : Fin 16) (b : BankId) (x : KeyBank) :
    (s.setBank k b x).message = s.message := rfl
@[simp] theorem State.setBank_response (k : Fin 16) (b : BankId) (x : KeyBank) :
    (s.setBank k b x).response = s.response := rfl
@[simp] theorem State.setBank_responseFrame (k : Fin 16) (b : BankId) (x : KeyBank) :
    (s.setBank k b x).responseFrame = s.responseFrame := rfl
@[simp] theorem State.setBank_context (k : Fin 16) (b : BankId) (x : KeyBank) :
    (s.setBank k b x).context = s.context := rfl
@[simp] theorem State.setBank_mgmtKeys (k : Fin 16) (b : BankId) (x : KeyBank) :
    (s.setBank k b x).mgmtKeys = s.mgmtKeys := rfl
@[simp] theorem State.setBank_lastRemote (k : Fin 16) (b : BankId) (x : KeyBank) :
    (s.setBank k b x).lastRemote = s.lastRemote := rfl
@[simp] theorem State.setBank_lastLocal (k : Fin 16) (b : BankId) (x : KeyBank) :
    (s.setBank k b x).lastLocal = s.lastLocal := rfl
@[simp] theorem State.setBank_settings (k : Fin 16) (b : BankId) (x : KeyBank) :
    (s.setBank k b x).settings = s.settings := rfl
@[simp] theorem State.setBank_destinations (k : Fin 16) (b : BankId) (x : KeyBank) :
    (s.setBank k b x).destinations = s.destinations := rfl
@[simp] theorem State.setBank_status (k : Fin 16) (b : BankId) (x : KeyBank) :
    (s.setBank k b x).status = s.status := rfl
@[simp] theorem State.setBank_enables (k : Fin 16) (b : BankId) (x : KeyBank) :
    (s.setBank k b x).enables = s.enables := rfl
@[simp] theorem State.setBank_eventMap (k : Fin 16) (b : BankId) (x : KeyBank) :
    (s.setBank k b x).eventMap = s.eventMap := rfl
@[simp] theorem State.setBank_noticeWaiting (k : Fin 16) (b : BankId) (x : KeyBank) :
    (s.setBank k b x).noticeWaiting = s.noticeWaiting := rfl
@[simp] theorem State.setBank_noticeSending (k : Fin 16) (b : BankId) (x : KeyBank) :
    (s.setBank k b x).noticeSending = s.noticeSending := rfl
@[simp] theorem State.setBank_counters (k : Fin 16) (b : BankId) (x : KeyBank) :
    (s.setBank k b x).counters = s.counters := rfl
@[simp] theorem State.setBank_slots (k : Fin 16) (b : BankId) (x : KeyBank) :
    (s.setBank k b x).slots = s.slots.set k (s.slots[k].setBank b x) := rfl

/-! ## An exchange record replaced -/

@[simp] theorem State.setExchange_pending (i : Fin 128) (x : Option Exchange) :
    (s.setExchange i x).pending = s.pending := rfl
@[simp] theorem State.setExchange_factory (i : Fin 128) (x : Option Exchange) :
    (s.setExchange i x).factory = s.factory := rfl
@[simp] theorem State.setExchange_storeValid (i : Fin 128) (x : Option Exchange) :
    (s.setExchange i x).storeValid = s.storeValid := rfl
@[simp] theorem State.setExchange_eraseLine (i : Fin 128) (x : Option Exchange) :
    (s.setExchange i x).eraseLine = s.eraseLine := rfl
@[simp] theorem State.setExchange_uptime (i : Fin 128) (x : Option Exchange) :
    (s.setExchange i x).uptime = s.uptime := rfl
@[simp] theorem State.setExchange_portT (i : Fin 128) (x : Option Exchange) :
    (s.setExchange i x).portT = s.portT := rfl
@[simp] theorem State.setExchange_portL (i : Fin 128) (x : Option Exchange) :
    (s.setExchange i x).portL = s.portL := rfl
@[simp] theorem State.setExchange_rules (i : Fin 128) (x : Option Exchange) :
    (s.setExchange i x).rules = s.rules := rfl
@[simp] theorem State.setExchange_locators (i : Fin 128) (x : Option Exchange) :
    (s.setExchange i x).locators = s.locators := rfl
@[simp] theorem State.setExchange_slots (i : Fin 128) (x : Option Exchange) :
    (s.setExchange i x).slots = s.slots := rfl
@[simp] theorem State.setExchange_load (i : Fin 128) (x : Option Exchange) :
    (s.setExchange i x).load = s.load := rfl
@[simp] theorem State.setExchange_waiting (i : Fin 128) (x : Option Exchange) :
    (s.setExchange i x).waiting = s.waiting := rfl
@[simp] theorem State.setExchange_lanes (i : Fin 128) (x : Option Exchange) :
    (s.setExchange i x).lanes = s.lanes := rfl
@[simp] theorem State.setExchange_mgmtWaiting (i : Fin 128) (x : Option Exchange) :
    (s.setExchange i x).mgmtWaiting = s.mgmtWaiting := rfl
@[simp] theorem State.setExchange_nextJob (i : Fin 128) (x : Option Exchange) :
    (s.setExchange i x).nextJob = s.nextJob := rfl
@[simp] theorem State.setExchange_frames (i : Fin 128) (x : Option Exchange) :
    (s.setExchange i x).frames = s.frames := rfl
@[simp] theorem State.setExchange_freeSlots (i : Fin 128) (x : Option Exchange) :
    (s.setExchange i x).freeSlots = s.freeSlots := rfl
@[simp] theorem State.setExchange_standIns (i : Fin 128) (x : Option Exchange) :
    (s.setExchange i x).standIns = s.standIns := rfl
@[simp] theorem State.setExchange_ident (i : Fin 128) (x : Option Exchange) :
    (s.setExchange i x).ident = s.ident := rfl
@[simp] theorem State.setExchange_mgu (i : Fin 128) (x : Option Exchange) :
    (s.setExchange i x).mgu = s.mgu := rfl
@[simp] theorem State.setExchange_message (i : Fin 128) (x : Option Exchange) :
    (s.setExchange i x).message = s.message := rfl
@[simp] theorem State.setExchange_response (i : Fin 128) (x : Option Exchange) :
    (s.setExchange i x).response = s.response := rfl
@[simp] theorem State.setExchange_responseFrame (i : Fin 128) (x : Option Exchange) :
    (s.setExchange i x).responseFrame = s.responseFrame := rfl
@[simp] theorem State.setExchange_context (i : Fin 128) (x : Option Exchange) :
    (s.setExchange i x).context = s.context := rfl
@[simp] theorem State.setExchange_mgmtKeys (i : Fin 128) (x : Option Exchange) :
    (s.setExchange i x).mgmtKeys = s.mgmtKeys := rfl
@[simp] theorem State.setExchange_lastRemote (i : Fin 128) (x : Option Exchange) :
    (s.setExchange i x).lastRemote = s.lastRemote := rfl
@[simp] theorem State.setExchange_lastLocal (i : Fin 128) (x : Option Exchange) :
    (s.setExchange i x).lastLocal = s.lastLocal := rfl
@[simp] theorem State.setExchange_settings (i : Fin 128) (x : Option Exchange) :
    (s.setExchange i x).settings = s.settings := rfl
@[simp] theorem State.setExchange_destinations (i : Fin 128) (x : Option Exchange) :
    (s.setExchange i x).destinations = s.destinations := rfl
@[simp] theorem State.setExchange_status (i : Fin 128) (x : Option Exchange) :
    (s.setExchange i x).status = s.status := rfl
@[simp] theorem State.setExchange_enables (i : Fin 128) (x : Option Exchange) :
    (s.setExchange i x).enables = s.enables := rfl
@[simp] theorem State.setExchange_eventMap (i : Fin 128) (x : Option Exchange) :
    (s.setExchange i x).eventMap = s.eventMap := rfl
@[simp] theorem State.setExchange_noticeWaiting (i : Fin 128) (x : Option Exchange) :
    (s.setExchange i x).noticeWaiting = s.noticeWaiting := rfl
@[simp] theorem State.setExchange_noticeSending (i : Fin 128) (x : Option Exchange) :
    (s.setExchange i x).noticeSending = s.noticeSending := rfl
@[simp] theorem State.setExchange_counters (i : Fin 128) (x : Option Exchange) :
    (s.setExchange i x).counters = s.counters := rfl
@[simp] theorem State.setExchange_tills (i : Fin 128) (x : Option Exchange) :
    (s.setExchange i x).tills = s.tills.set i { s.tills[i] with exchange := x } := rfl

/-! ## A till entry replaced -/

@[simp] theorem State.setTill_pending (i : Fin 128) (t : TillEntry) :
    (s.setTill i t).pending = s.pending := rfl
@[simp] theorem State.setTill_factory (i : Fin 128) (t : TillEntry) :
    (s.setTill i t).factory = s.factory := rfl
@[simp] theorem State.setTill_storeValid (i : Fin 128) (t : TillEntry) :
    (s.setTill i t).storeValid = s.storeValid := rfl
@[simp] theorem State.setTill_eraseLine (i : Fin 128) (t : TillEntry) :
    (s.setTill i t).eraseLine = s.eraseLine := rfl
@[simp] theorem State.setTill_uptime (i : Fin 128) (t : TillEntry) :
    (s.setTill i t).uptime = s.uptime := rfl
@[simp] theorem State.setTill_portT (i : Fin 128) (t : TillEntry) :
    (s.setTill i t).portT = s.portT := rfl
@[simp] theorem State.setTill_portL (i : Fin 128) (t : TillEntry) :
    (s.setTill i t).portL = s.portL := rfl
@[simp] theorem State.setTill_rules (i : Fin 128) (t : TillEntry) :
    (s.setTill i t).rules = s.rules := rfl
@[simp] theorem State.setTill_locators (i : Fin 128) (t : TillEntry) :
    (s.setTill i t).locators = s.locators := rfl
@[simp] theorem State.setTill_slots (i : Fin 128) (t : TillEntry) :
    (s.setTill i t).slots = s.slots := rfl
@[simp] theorem State.setTill_load (i : Fin 128) (t : TillEntry) :
    (s.setTill i t).load = s.load := rfl
@[simp] theorem State.setTill_waiting (i : Fin 128) (t : TillEntry) :
    (s.setTill i t).waiting = s.waiting := rfl
@[simp] theorem State.setTill_lanes (i : Fin 128) (t : TillEntry) :
    (s.setTill i t).lanes = s.lanes := rfl
@[simp] theorem State.setTill_mgmtWaiting (i : Fin 128) (t : TillEntry) :
    (s.setTill i t).mgmtWaiting = s.mgmtWaiting := rfl
@[simp] theorem State.setTill_nextJob (i : Fin 128) (t : TillEntry) :
    (s.setTill i t).nextJob = s.nextJob := rfl
@[simp] theorem State.setTill_frames (i : Fin 128) (t : TillEntry) :
    (s.setTill i t).frames = s.frames := rfl
@[simp] theorem State.setTill_freeSlots (i : Fin 128) (t : TillEntry) :
    (s.setTill i t).freeSlots = s.freeSlots := rfl
@[simp] theorem State.setTill_standIns (i : Fin 128) (t : TillEntry) :
    (s.setTill i t).standIns = s.standIns := rfl
@[simp] theorem State.setTill_ident (i : Fin 128) (t : TillEntry) :
    (s.setTill i t).ident = s.ident := rfl
@[simp] theorem State.setTill_mgu (i : Fin 128) (t : TillEntry) :
    (s.setTill i t).mgu = s.mgu := rfl
@[simp] theorem State.setTill_message (i : Fin 128) (t : TillEntry) :
    (s.setTill i t).message = s.message := rfl
@[simp] theorem State.setTill_response (i : Fin 128) (t : TillEntry) :
    (s.setTill i t).response = s.response := rfl
@[simp] theorem State.setTill_responseFrame (i : Fin 128) (t : TillEntry) :
    (s.setTill i t).responseFrame = s.responseFrame := rfl
@[simp] theorem State.setTill_context (i : Fin 128) (t : TillEntry) :
    (s.setTill i t).context = s.context := rfl
@[simp] theorem State.setTill_mgmtKeys (i : Fin 128) (t : TillEntry) :
    (s.setTill i t).mgmtKeys = s.mgmtKeys := rfl
@[simp] theorem State.setTill_lastRemote (i : Fin 128) (t : TillEntry) :
    (s.setTill i t).lastRemote = s.lastRemote := rfl
@[simp] theorem State.setTill_lastLocal (i : Fin 128) (t : TillEntry) :
    (s.setTill i t).lastLocal = s.lastLocal := rfl
@[simp] theorem State.setTill_settings (i : Fin 128) (t : TillEntry) :
    (s.setTill i t).settings = s.settings := rfl
@[simp] theorem State.setTill_destinations (i : Fin 128) (t : TillEntry) :
    (s.setTill i t).destinations = s.destinations := rfl
@[simp] theorem State.setTill_status (i : Fin 128) (t : TillEntry) :
    (s.setTill i t).status = s.status := rfl
@[simp] theorem State.setTill_enables (i : Fin 128) (t : TillEntry) :
    (s.setTill i t).enables = s.enables := rfl
@[simp] theorem State.setTill_eventMap (i : Fin 128) (t : TillEntry) :
    (s.setTill i t).eventMap = s.eventMap := rfl
@[simp] theorem State.setTill_noticeWaiting (i : Fin 128) (t : TillEntry) :
    (s.setTill i t).noticeWaiting = s.noticeWaiting := rfl
@[simp] theorem State.setTill_noticeSending (i : Fin 128) (t : TillEntry) :
    (s.setTill i t).noticeSending = s.noticeSending := rfl
@[simp] theorem State.setTill_counters (i : Fin 128) (t : TillEntry) :
    (s.setTill i t).counters = s.counters := rfl
@[simp] theorem State.setTill_tills (i : Fin 128) (t : TillEntry) :
    (s.setTill i t).tills = s.tills.set i t := rfl

/-! ## A source latched -/

@[simp] theorem State.latch_pending (e : EventSource) :
    (s.latch e).pending = s.pending := rfl
@[simp] theorem State.latch_factory (e : EventSource) :
    (s.latch e).factory = s.factory := rfl
@[simp] theorem State.latch_storeValid (e : EventSource) :
    (s.latch e).storeValid = s.storeValid := rfl
@[simp] theorem State.latch_eraseLine (e : EventSource) :
    (s.latch e).eraseLine = s.eraseLine := rfl
@[simp] theorem State.latch_uptime (e : EventSource) :
    (s.latch e).uptime = s.uptime := rfl
@[simp] theorem State.latch_portT (e : EventSource) :
    (s.latch e).portT = s.portT := rfl
@[simp] theorem State.latch_portL (e : EventSource) :
    (s.latch e).portL = s.portL := rfl
@[simp] theorem State.latch_rules (e : EventSource) :
    (s.latch e).rules = s.rules := rfl
@[simp] theorem State.latch_locators (e : EventSource) :
    (s.latch e).locators = s.locators := rfl
@[simp] theorem State.latch_tills (e : EventSource) :
    (s.latch e).tills = s.tills := rfl
@[simp] theorem State.latch_slots (e : EventSource) :
    (s.latch e).slots = s.slots := rfl
@[simp] theorem State.latch_load (e : EventSource) :
    (s.latch e).load = s.load := rfl
@[simp] theorem State.latch_waiting (e : EventSource) :
    (s.latch e).waiting = s.waiting := rfl
@[simp] theorem State.latch_lanes (e : EventSource) :
    (s.latch e).lanes = s.lanes := rfl
@[simp] theorem State.latch_mgmtWaiting (e : EventSource) :
    (s.latch e).mgmtWaiting = s.mgmtWaiting := rfl
@[simp] theorem State.latch_nextJob (e : EventSource) :
    (s.latch e).nextJob = s.nextJob := rfl
@[simp] theorem State.latch_frames (e : EventSource) :
    (s.latch e).frames = s.frames := rfl
@[simp] theorem State.latch_freeSlots (e : EventSource) :
    (s.latch e).freeSlots = s.freeSlots := rfl
@[simp] theorem State.latch_standIns (e : EventSource) :
    (s.latch e).standIns = s.standIns := rfl
@[simp] theorem State.latch_ident (e : EventSource) :
    (s.latch e).ident = s.ident := rfl
@[simp] theorem State.latch_mgu (e : EventSource) :
    (s.latch e).mgu = s.mgu := rfl
@[simp] theorem State.latch_message (e : EventSource) :
    (s.latch e).message = s.message := rfl
@[simp] theorem State.latch_response (e : EventSource) :
    (s.latch e).response = s.response := rfl
@[simp] theorem State.latch_responseFrame (e : EventSource) :
    (s.latch e).responseFrame = s.responseFrame := rfl
@[simp] theorem State.latch_context (e : EventSource) :
    (s.latch e).context = s.context := rfl
@[simp] theorem State.latch_mgmtKeys (e : EventSource) :
    (s.latch e).mgmtKeys = s.mgmtKeys := rfl
@[simp] theorem State.latch_lastRemote (e : EventSource) :
    (s.latch e).lastRemote = s.lastRemote := rfl
@[simp] theorem State.latch_lastLocal (e : EventSource) :
    (s.latch e).lastLocal = s.lastLocal := rfl
@[simp] theorem State.latch_settings (e : EventSource) :
    (s.latch e).settings = s.settings := rfl
@[simp] theorem State.latch_destinations (e : EventSource) :
    (s.latch e).destinations = s.destinations := rfl
@[simp] theorem State.latch_enables (e : EventSource) :
    (s.latch e).enables = s.enables := rfl
@[simp] theorem State.latch_eventMap (e : EventSource) :
    (s.latch e).eventMap = s.eventMap := rfl
@[simp] theorem State.latch_noticeWaiting (e : EventSource) :
    (s.latch e).noticeWaiting = s.noticeWaiting := rfl
@[simp] theorem State.latch_noticeSending (e : EventSource) :
    (s.latch e).noticeSending = s.noticeSending := rfl
@[simp] theorem State.latch_counters (e : EventSource) :
    (s.latch e).counters = s.counters := rfl
@[simp] theorem State.latch_status (e : EventSource) :
    (s.latch e).status = s.status.set e.idx true := rfl

/-! ## A frame slot freed -/

@[simp] theorem State.freeFrame_pending (i : Fin 64) :
    (s.freeFrame i).pending = s.pending := rfl
@[simp] theorem State.freeFrame_factory (i : Fin 64) :
    (s.freeFrame i).factory = s.factory := rfl
@[simp] theorem State.freeFrame_storeValid (i : Fin 64) :
    (s.freeFrame i).storeValid = s.storeValid := rfl
@[simp] theorem State.freeFrame_eraseLine (i : Fin 64) :
    (s.freeFrame i).eraseLine = s.eraseLine := rfl
@[simp] theorem State.freeFrame_uptime (i : Fin 64) :
    (s.freeFrame i).uptime = s.uptime := rfl
@[simp] theorem State.freeFrame_portT (i : Fin 64) :
    (s.freeFrame i).portT = s.portT := rfl
@[simp] theorem State.freeFrame_portL (i : Fin 64) :
    (s.freeFrame i).portL = s.portL := rfl
@[simp] theorem State.freeFrame_rules (i : Fin 64) :
    (s.freeFrame i).rules = s.rules := rfl
@[simp] theorem State.freeFrame_locators (i : Fin 64) :
    (s.freeFrame i).locators = s.locators := rfl
@[simp] theorem State.freeFrame_tills (i : Fin 64) :
    (s.freeFrame i).tills = s.tills := rfl
@[simp] theorem State.freeFrame_slots (i : Fin 64) :
    (s.freeFrame i).slots = s.slots := rfl
@[simp] theorem State.freeFrame_load (i : Fin 64) :
    (s.freeFrame i).load = s.load := rfl
@[simp] theorem State.freeFrame_waiting (i : Fin 64) :
    (s.freeFrame i).waiting = s.waiting := rfl
@[simp] theorem State.freeFrame_lanes (i : Fin 64) :
    (s.freeFrame i).lanes = s.lanes := rfl
@[simp] theorem State.freeFrame_mgmtWaiting (i : Fin 64) :
    (s.freeFrame i).mgmtWaiting = s.mgmtWaiting := rfl
@[simp] theorem State.freeFrame_nextJob (i : Fin 64) :
    (s.freeFrame i).nextJob = s.nextJob := rfl
@[simp] theorem State.freeFrame_standIns (i : Fin 64) :
    (s.freeFrame i).standIns = s.standIns := rfl
@[simp] theorem State.freeFrame_ident (i : Fin 64) :
    (s.freeFrame i).ident = s.ident := rfl
@[simp] theorem State.freeFrame_mgu (i : Fin 64) :
    (s.freeFrame i).mgu = s.mgu := rfl
@[simp] theorem State.freeFrame_message (i : Fin 64) :
    (s.freeFrame i).message = s.message := rfl
@[simp] theorem State.freeFrame_response (i : Fin 64) :
    (s.freeFrame i).response = s.response := rfl
@[simp] theorem State.freeFrame_responseFrame (i : Fin 64) :
    (s.freeFrame i).responseFrame = s.responseFrame := rfl
@[simp] theorem State.freeFrame_context (i : Fin 64) :
    (s.freeFrame i).context = s.context := rfl
@[simp] theorem State.freeFrame_mgmtKeys (i : Fin 64) :
    (s.freeFrame i).mgmtKeys = s.mgmtKeys := rfl
@[simp] theorem State.freeFrame_lastRemote (i : Fin 64) :
    (s.freeFrame i).lastRemote = s.lastRemote := rfl
@[simp] theorem State.freeFrame_lastLocal (i : Fin 64) :
    (s.freeFrame i).lastLocal = s.lastLocal := rfl
@[simp] theorem State.freeFrame_settings (i : Fin 64) :
    (s.freeFrame i).settings = s.settings := rfl
@[simp] theorem State.freeFrame_destinations (i : Fin 64) :
    (s.freeFrame i).destinations = s.destinations := rfl
@[simp] theorem State.freeFrame_status (i : Fin 64) :
    (s.freeFrame i).status = s.status := rfl
@[simp] theorem State.freeFrame_enables (i : Fin 64) :
    (s.freeFrame i).enables = s.enables := rfl
@[simp] theorem State.freeFrame_eventMap (i : Fin 64) :
    (s.freeFrame i).eventMap = s.eventMap := rfl
@[simp] theorem State.freeFrame_noticeWaiting (i : Fin 64) :
    (s.freeFrame i).noticeWaiting = s.noticeWaiting := rfl
@[simp] theorem State.freeFrame_noticeSending (i : Fin 64) :
    (s.freeFrame i).noticeSending = s.noticeSending := rfl
@[simp] theorem State.freeFrame_counters (i : Fin 64) :
    (s.freeFrame i).counters = s.counters := rfl
@[simp] theorem State.freeFrame_frames (i : Fin 64) :
    (s.freeFrame i).frames = s.frames.set i [] := rfl
@[simp] theorem State.freeFrame_freeSlots (i : Fin 64) :
    (s.freeFrame i).freeSlots = s.freeSlots ++ [i] := rfl

/-! ## An answer appended -/

@[simp] theorem State.answer_pending (kind : Byte) (r : ResultCode) (body : Bytes) :
    (s.answer kind r body).pending = s.pending := rfl
@[simp] theorem State.answer_factory (kind : Byte) (r : ResultCode) (body : Bytes) :
    (s.answer kind r body).factory = s.factory := rfl
@[simp] theorem State.answer_storeValid (kind : Byte) (r : ResultCode) (body : Bytes) :
    (s.answer kind r body).storeValid = s.storeValid := rfl
@[simp] theorem State.answer_eraseLine (kind : Byte) (r : ResultCode) (body : Bytes) :
    (s.answer kind r body).eraseLine = s.eraseLine := rfl
@[simp] theorem State.answer_uptime (kind : Byte) (r : ResultCode) (body : Bytes) :
    (s.answer kind r body).uptime = s.uptime := rfl
@[simp] theorem State.answer_portT (kind : Byte) (r : ResultCode) (body : Bytes) :
    (s.answer kind r body).portT = s.portT := rfl
@[simp] theorem State.answer_portL (kind : Byte) (r : ResultCode) (body : Bytes) :
    (s.answer kind r body).portL = s.portL := rfl
@[simp] theorem State.answer_rules (kind : Byte) (r : ResultCode) (body : Bytes) :
    (s.answer kind r body).rules = s.rules := rfl
@[simp] theorem State.answer_locators (kind : Byte) (r : ResultCode) (body : Bytes) :
    (s.answer kind r body).locators = s.locators := rfl
@[simp] theorem State.answer_tills (kind : Byte) (r : ResultCode) (body : Bytes) :
    (s.answer kind r body).tills = s.tills := rfl
@[simp] theorem State.answer_slots (kind : Byte) (r : ResultCode) (body : Bytes) :
    (s.answer kind r body).slots = s.slots := rfl
@[simp] theorem State.answer_load (kind : Byte) (r : ResultCode) (body : Bytes) :
    (s.answer kind r body).load = s.load := rfl
@[simp] theorem State.answer_waiting (kind : Byte) (r : ResultCode) (body : Bytes) :
    (s.answer kind r body).waiting = s.waiting := rfl
@[simp] theorem State.answer_lanes (kind : Byte) (r : ResultCode) (body : Bytes) :
    (s.answer kind r body).lanes = s.lanes := rfl
@[simp] theorem State.answer_mgmtWaiting (kind : Byte) (r : ResultCode) (body : Bytes) :
    (s.answer kind r body).mgmtWaiting = s.mgmtWaiting := rfl
@[simp] theorem State.answer_nextJob (kind : Byte) (r : ResultCode) (body : Bytes) :
    (s.answer kind r body).nextJob = s.nextJob := rfl
@[simp] theorem State.answer_frames (kind : Byte) (r : ResultCode) (body : Bytes) :
    (s.answer kind r body).frames = s.frames := rfl
@[simp] theorem State.answer_freeSlots (kind : Byte) (r : ResultCode) (body : Bytes) :
    (s.answer kind r body).freeSlots = s.freeSlots := rfl
@[simp] theorem State.answer_standIns (kind : Byte) (r : ResultCode) (body : Bytes) :
    (s.answer kind r body).standIns = s.standIns := rfl
@[simp] theorem State.answer_ident (kind : Byte) (r : ResultCode) (body : Bytes) :
    (s.answer kind r body).ident = s.ident := rfl
@[simp] theorem State.answer_mgu (kind : Byte) (r : ResultCode) (body : Bytes) :
    (s.answer kind r body).mgu = s.mgu := rfl
@[simp] theorem State.answer_message (kind : Byte) (r : ResultCode) (body : Bytes) :
    (s.answer kind r body).message = s.message := rfl
@[simp] theorem State.answer_responseFrame (kind : Byte) (r : ResultCode) (body : Bytes) :
    (s.answer kind r body).responseFrame = s.responseFrame := rfl
@[simp] theorem State.answer_mgmtKeys (kind : Byte) (r : ResultCode) (body : Bytes) :
    (s.answer kind r body).mgmtKeys = s.mgmtKeys := rfl
@[simp] theorem State.answer_lastRemote (kind : Byte) (r : ResultCode) (body : Bytes) :
    (s.answer kind r body).lastRemote = s.lastRemote := rfl
@[simp] theorem State.answer_lastLocal (kind : Byte) (r : ResultCode) (body : Bytes) :
    (s.answer kind r body).lastLocal = s.lastLocal := rfl
@[simp] theorem State.answer_settings (kind : Byte) (r : ResultCode) (body : Bytes) :
    (s.answer kind r body).settings = s.settings := rfl
@[simp] theorem State.answer_destinations (kind : Byte) (r : ResultCode) (body : Bytes) :
    (s.answer kind r body).destinations = s.destinations := rfl
@[simp] theorem State.answer_status (kind : Byte) (r : ResultCode) (body : Bytes) :
    (s.answer kind r body).status = s.status := rfl
@[simp] theorem State.answer_enables (kind : Byte) (r : ResultCode) (body : Bytes) :
    (s.answer kind r body).enables = s.enables := rfl
@[simp] theorem State.answer_eventMap (kind : Byte) (r : ResultCode) (body : Bytes) :
    (s.answer kind r body).eventMap = s.eventMap := rfl
@[simp] theorem State.answer_noticeWaiting (kind : Byte) (r : ResultCode) (body : Bytes) :
    (s.answer kind r body).noticeWaiting = s.noticeWaiting := rfl
@[simp] theorem State.answer_noticeSending (kind : Byte) (r : ResultCode) (body : Bytes) :
    (s.answer kind r body).noticeSending = s.noticeSending := rfl
@[simp] theorem State.answer_counters (kind : Byte) (r : ResultCode) (body : Bytes) :
    (s.answer kind r body).counters = s.counters := rfl
@[simp] theorem State.answer_response (kind : Byte) (r : ResultCode) (body : Bytes) :
    (s.answer kind r body).response = s.response ++ resultEntry kind r body := rfl
@[simp] theorem State.answer_context (kind : Byte) (r : ResultCode) (body : Bytes) :
    (s.answer kind r body).context =
      s.context.map fun c => { c with nextItem := c.nextItem + 1, job := none } := rfl

end Sys2Proof.Machine
end

