-- ==== Sys2Proof/Laws/Events.lean ====
section
/-! SUPPORT. What the event unit's operations can do, said once each: a gain of a counter or a statistic, the level
statuses, and the conditions they follow. -/

namespace Sys2Proof.Machine

/-! ## Gains (R51, R197) -/

/-- R197: a global counter gains 1 up to its maximum; the gain that reaches it latches COUNTER_SATURATED. -/
theorem State.bump_eq (s : State) (c : Counter) :
    s.bump c =
      { s with
        counters := s.counters.set c.idx (gained Config.counterMax s.counters[c.idx])
        status := if s.counters[c.idx] + 1 = Config.counterMax then
          s.status.set EventSource.counterSaturated.idx true else s.status } := by
  have hidx : s.counterOf c = s.counters[c.idx] := rfl
  unfold State.bump gained
  rw [hidx]
  by_cases h : Config.counterMax ≤ s.counters[c.idx]
  · have h1 : ¬ s.counters[c.idx] + 1 = Config.counterMax := by omega
    have h2 : ¬ s.counters[c.idx] < Config.counterMax := by omega
    rw [if_pos h, if_neg h1, if_neg h2]
    simp only [Fin.getElem_fin, Vector.set_getElem_self]
  · have h2 : s.counters[c.idx] < Config.counterMax := by omega
    rw [if_neg h, if_pos h2]
    by_cases h1 : s.counters[c.idx] + 1 = Config.counterMax
    · rw [if_pos h1, if_pos h1]; rfl
    · rw [if_neg h1, if_neg h1]

/-- R51: a statistic gains 1 up to 65,535; the gain that reaches it latches COUNTER_SATURATED. -/
theorem State.bumpStat_eq (s : State) (i : Fin 128) (k : Stat) :
    s.bumpStat i k =
      { s with
        tills := s.tills.set i (s.tills[i].setStat k (gained Config.statMax (s.tills[i].stat k)))
        status := if s.tills[i].stat k + 1 = Config.statMax then
          s.status.set EventSource.counterSaturated.idx true else s.status } := by
  unfold State.bumpStat gained
  by_cases h : Config.statMax ≤ s.tills[i].stat k
  · have h1 : ¬ s.tills[i].stat k + 1 = Config.statMax := by omega
    have h2 : ¬ s.tills[i].stat k < Config.statMax := by omega
    have h3 : s.tills[i].setStat k (s.tills[i].stat k) = s.tills[i] := by cases k <;> rfl
    rw [if_pos h, if_neg h1, if_neg h2, h3]
    simp only [Fin.getElem_fin, Vector.set_getElem_self]
  · have h2 : s.tills[i].stat k < Config.statMax := by omega
    rw [if_neg h, if_pos h2]
    by_cases h1 : s.tills[i].stat k + 1 = Config.statMax
    · rw [if_pos h1, if_pos h1]; rfl
    · rw [if_neg h1, if_neg h1]

/-- A block of a frame latches GUARD_BLOCK and counts it (R163); nothing else moves. -/
theorem State.guardBlocked_shape (s : State) :
    ∃ st, s.guardBlocked =
      { s with
        status := st
        counters := s.counters.set Counter.guardBlocks.idx
          (gained Config.counterMax s.counters[Counter.guardBlocks.idx]) } ∧
      (st = s.status.set EventSource.guardBlock.idx true ∨
        st = (s.status.set EventSource.guardBlock.idx true).set EventSource.counterSaturated.idx true) := by
  refine ⟨(s.guardBlocked).status, ?_, ?_⟩
  · unfold State.guardBlocked
    rw [State.bump_eq]
    rfl
  · unfold State.guardBlocked
    rw [State.bump_eq]
    by_cases h : (s.latch .guardBlock).counters[Counter.guardBlocks.idx] + 1 = Config.counterMax
    · right; simp only [h, ↓reduceIte]; rfl
    · left; simp only [h, ↓reduceIte]; rfl

/-! ## Level statuses (R190) -/

/-- The conditions of the level sources read the links, the queue's length, the free list, the key store, the warn
margin and the tills' valid flags and slots, and nothing else. -/
theorem State.condition_congr (a t : State) (e : EventSource)
    (hT : t.portT.link = a.portT.link) (hL : t.portL.link = a.portL.link)
    (hw : t.waiting = a.waiting) (hl : t.lanes = a.lanes) (hf : t.freeSlots = a.freeSlots)
    (hs : t.slots = a.slots) (hm : t.settings = a.settings) (ht : t.tills = a.tills) :
    t.condition e = a.condition e := by
  cases e <;> simp [State.condition, State.occupied, hT, hL, hw, hl, hf, hs, hm, ht]

/-- The status vector after the level sources have taken their conditions. -/
def State.levelled (s : State) : Vector Bool 18 := s.evalLevels.status

/-- R190: the evaluation moves no status of an edge source. -/
theorem State.evalLevels_edge (s : State) (e : Fin 18) (h : e.val < 11) :
    s.evalLevels.status[e] = s.status[e] := by
  have ne : ∀ k : Nat, 11 ≤ k → k ≠ e.val := fun k hk => by omega
  simp only [State.evalLevels, levelSources, List.foldl, EventSource.idx]
  simp [ne]

/-- R190: after the evaluation every level status is its condition. -/
theorem State.evalLevels_level (s : State) (e : EventSource) (h : e ∈ levelSources) :
    s.condition e = some s.evalLevels.status[e.idx] := by
  simp only [levelSources, List.mem_cons, List.not_mem_nil, or_false] at h
  rcases h with rfl | rfl | rfl | rfl | rfl | rfl | rfl <;>
    simp [State.evalLevels, levelSources, EventSource.idx, State.condition]

/-- The evaluation changes the statuses alone. -/
theorem State.evalLevels_eq (s : State) : s.evalLevels = { s with status := s.levelled } := rfl

end Sys2Proof.Machine
end

