-- ==== Sys2Proof/Laws/Output.lean ====
section
/-! SUPPORT. What the output side can do, said once each: the arbiter, an offer, a notice asked for, and the end of an
event. -/

namespace Sys2Proof.Machine

/-! ## The arbiter and offers (R7, R18, R20, R160) -/

/-- R20: the arbiter does nothing, takes the oldest bridged frame, or takes the oldest own-output entry. -/
theorem State.arbiter_cases (s : State) (p : PortId) :
    (s.arbiter p = s ∧ ((s.port p).sending.isSome ∨ (s.port p).link = .down ∨
        ((s.port p).bridge = [] ∧ (s.port p).ownQueue = []))) ∨
    (∃ f rest, (s.port p).sending = none ∧ (s.port p).link = .up ∧ (s.port p).bridge = f :: rest ∧
        ((s.port p).ownQueue = [] ∨ (s.port p).lastServed = .own) ∧
        s.arbiter p = s.takeBridged p f rest) ∨
    (∃ e rest, (s.port p).sending = none ∧ (s.port p).link = .up ∧ (s.port p).ownQueue = e :: rest ∧
        ((s.port p).bridge = [] ∨ (s.port p).lastServed = .bridge) ∧
        s.arbiter p = s.takeOwn p e rest) := by
  unfold State.arbiter
  by_cases h : (s.port p).sending.isSome ∨ (s.port p).link = .down
  · rw [if_pos h]
    exact .inl ⟨rfl, by tauto⟩
  · rw [if_neg h]
    have hs : (s.port p).sending = none := by
      cases hx : (s.port p).sending
      · rfl
      · simp [hx] at h
    have hl : (s.port p).link = .up := by
      cases hx : (s.port p).link
      · rfl
      · simp [hx] at h
    rcases hb : (s.port p).bridge with _ | ⟨f, fs⟩ <;> rcases ho : (s.port p).ownQueue with _ | ⟨e, es⟩
    · exact .inl ⟨rfl, by simp⟩
    · exact .inr (.inr ⟨e, es, hs, hl, rfl, by simp, rfl⟩)
    · exact .inr (.inl ⟨f, fs, hs, hl, rfl, by simp, rfl⟩)
    · cases hv : (s.port p).lastServed
      · exact .inr (.inr ⟨e, es, hs, hl, rfl, by simp, rfl⟩)
      · exact .inr (.inl ⟨f, fs, hs, hl, rfl, by simp, rfl⟩)

/-- An offer to an own-output queue (R7, R160): discarded while DOWN, blocked by the guard on port L, or queued. -/
theorem State.offerOwn_cases (s : State) (p : PortId) (e : OwnEntry) :
    ((s.port p).link = .down ∧ s.offerOwn p e = (s.releaseEntry p e, .taken)) ∨
    ((s.port p).link = .up ∧ p = .L ∧ guardPasses (s.heldFrame p e) = false ∧
      s.offerOwn p e = (s.guardBlocked.releaseEntry p e, .blocked)) ∨
    ((s.port p).link = .up ∧ (p = .L → guardPasses (s.heldFrame p e) = true) ∧
      s.offerOwn p e =
        ((s.setPort p { s.port p with ownQueue := (s.port p).ownQueue ++ [e] }).arbiter p, .taken)) := by
  unfold State.offerOwn
  cases hl : (s.port p).link
  · by_cases h : p = .L ∧ guardPasses (s.heldFrame p e) = false
    · exact .inr (.inl ⟨rfl, h.1, h.2, by simp [h.1, h.1 ▸ h.2]⟩)
    · refine .inr (.inr ⟨rfl, ?_, by simp [h]⟩)
      intro hp
      simpa [hp] using h
  · exact .inl ⟨rfl, by simp⟩

/-- An offer to a bridge buffer (R18): discarded while DOWN, blocked on port L, dropped when full, or queued. -/
theorem State.offerBridge_cases (s : State) (p : PortId) (f : Bytes) :
    ((s.port p).link = .down ∧ s.offerBridge p f = s.bump .bridgeDrops) ∨
    ((s.port p).link = .up ∧ p = .L ∧ guardPasses f = false ∧ s.offerBridge p f = s.guardBlocked) ∨
    ((s.port p).link = .up ∧ (p = .L → guardPasses f = true) ∧
      Config.bridgeCapacity ≤ (s.port p).bridge.length ∧ s.offerBridge p f = s.bump .bridgeDrops) ∨
    ((s.port p).link = .up ∧ (p = .L → guardPasses f = true) ∧
      (s.port p).bridge.length < Config.bridgeCapacity ∧
      s.offerBridge p f =
        (s.setPort p { s.port p with bridge := (s.port p).bridge ++ [f] }).arbiter p) := by
  unfold State.offerBridge
  cases hl : (s.port p).link
  · by_cases h : p = .L ∧ guardPasses f = false
    · exact .inr (.inl ⟨rfl, h.1, h.2, by simp [h]⟩)
    · have hg : p = .L → guardPasses f = true := fun hp => by simpa [hp] using h
      by_cases hc : Config.bridgeCapacity ≤ (s.port p).bridge.length
      · exact .inr (.inr (.inl ⟨rfl, hg, hc, by simp [h, hc]⟩))
      · exact .inr (.inr (.inr ⟨rfl, hg, by omega, by simp [h, hc]⟩))
  · exact .inl ⟨rfl, by simp⟩

/-! ## Notices (R194, R195) -/

/-- What asking for a notice may change: port L's sources and transmitter, EVU's notice buffers, the identification
counter, and, for a blocked notice, GUARD_BLOCK with its counter. -/
structure NoticeStep (a t : State) : Prop where
  others : t =
    { a with
      status := t.status, counters := t.counters, ident := t.ident, portL := t.portL,
      noticeWaiting := t.noticeWaiting, noticeSending := t.noticeSending }
  counters : ∀ c : Fin 33, c ≠ Counter.guardBlocks.idx → t.counters[c] = a.counters[c]
  latched : ∀ e : Fin 18, a.status[e] = true → t.status[e] = true
  unlatched : ∀ e : Fin 18, e ≠ EventSource.guardBlock.idx → e ≠ EventSource.counterSaturated.idx →
    t.status[e] = a.status[e]
  portL : t.portL.link = a.portL.link ∧ t.portL.arp = a.portL.arp ∧ t.portL.receive = a.portL.receive
  line : a.portL.Served → t.portL.Served ∧ a.portL.KeptBesideNotices t.portL

theorem PortState.KeptBesideNotices.refl (x : PortState) : x.KeptBesideNotices x :=
  ⟨rfl, rfl, .inl ⟨rfl, rfl⟩⟩

theorem PortState.KeptBesideNotices.trans {x y z : PortState} (h : x.KeptBesideNotices y)
    (k : y.KeptBesideNotices z) : x.KeptBesideNotices z := by
  obtain ⟨h1, h2, h3⟩ := h
  obtain ⟨k1, k2, k3⟩ := k
  refine ⟨k1.trans h1, k2.trans h2, ?_⟩
  rcases h3 with ⟨hs, hl⟩ | ⟨hn, hl, w, hs, hk⟩
  · rcases k3 with ⟨ks, kl⟩ | ⟨kn, kl, v, ks, kk⟩
    · exact .inl ⟨ks.trans hs, kl.trans hl⟩
    · exact .inr ⟨hs ▸ kn, kl, v, ks, kk⟩
  · rcases k3 with ⟨ks, kl⟩ | ⟨kn, _, _, _, _⟩
    · exact .inr ⟨hn, kl.trans hl, w, ks.trans hs, hk⟩
    · rw [hs] at kn
      exact absurd kn (by simp)

theorem NoticeStep.refl (a : State) : NoticeStep a a :=
  ⟨rfl, fun _ _ => rfl, fun _ h => h, fun _ _ _ => rfl, ⟨rfl, rfl, rfl⟩, fun h => ⟨h, .refl _⟩⟩

theorem NoticeStep.trans {a b c : State} (h : NoticeStep a b) (k : NoticeStep b c) : NoticeStep a c :=
  ⟨by rw [k.others, h.others], fun i hi => (k.counters i hi).trans (h.counters i hi),
    fun e he => k.latched e (h.latched e he),
    fun e h1 h2 => (k.unlatched e h1 h2).trans (h.unlatched e h1 h2),
    ⟨k.portL.1.trans h.portL.1, k.portL.2.1.trans h.portL.2.1, k.portL.2.2.trans h.portL.2.2⟩,
    fun hs => ⟨(k.line (h.line hs).1).1, (h.line hs).2.trans (k.line (h.line hs).1).2⟩⟩

/-- A block of a frame is a notice step (R163). -/
theorem State.guardBlocked_notice (s : State) : NoticeStep s s.guardBlocked := by
  obtain ⟨st, h, hst⟩ := s.guardBlocked_shape
  rw [h]
  refine ⟨rfl, ?_, ?_, ?_, ⟨rfl, rfl, rfl⟩, fun hp => ⟨hp, .refl _⟩⟩
  · intro c hc
    have : (Counter.guardBlocks.idx : Fin 33).val ≠ c.val := fun hh => hc (Fin.ext hh.symm)
    simp [this]
  · intro e he
    rcases hst with rfl | rfl <;> simp_all [Vector.getElem_set]
  · intro e h1 h2
    have h1' : (EventSource.guardBlock.idx : Fin 18).val ≠ e.val := fun hh => h1 (Fin.ext hh.symm)
    have h2' : (EventSource.counterSaturated.idx : Fin 18).val ≠ e.val := fun hh => h2 (Fin.ext hh.symm)
    rcases hst with rfl | rfl <;> simp [h1', h2']

/-- Port L replaced by one of the same link, ARP buffers and receive buffer, with EVU's buffers, is a notice step. -/
theorem NoticeStep.ofPort (a : State) (x : PortState) (i : BitVec 16) (w : Option WaitingNotice)
    (v : Option Bytes)
    (hl : x.link = a.portL.link) (ha : x.arp = a.portL.arp) (hr : x.receive = a.portL.receive)
    (hx : a.portL.Served → x.Served ∧ a.portL.KeptBesideNotices x) :
    NoticeStep a { a with portL := x, noticeWaiting := w, noticeSending := v, ident := i } :=
  ⟨rfl, fun _ _ => rfl, fun _ h => h, fun _ _ _ => rfl, ⟨hl, ha, hr⟩, hx⟩

/-- A notice queued on an UP port L, with the arbiter's act, is a notice step. -/
theorem State.queueNotice_notice (s : State) (hup : s.portL.link = .up) :
    NoticeStep s
      ((s.setPort .L { s.portL with ownQueue := s.portL.ownQueue ++ [.notice] }).arbiter .L) := by
  have key : s.portL.Served → s.portL.sending = none → s.portL.bridge = [] ∧ s.portL.ownQueue = [] :=
    fun hs hn => ⟨(hs.1 (.inr hn)).2, (hs.1 (.inr hn)).1⟩
  rcases State.arbiter_cases (s.setPort .L { s.portL with ownQueue := s.portL.ownQueue ++ [.notice] }) .L
    with ⟨h, hc⟩ | ⟨f, rest, hn, _, hb, _, h⟩ | ⟨e, rest, hn, _, hq, _, h⟩
  · rw [h]
    refine .ofPort s _ s.ident s.noticeWaiting s.noticeSending rfl rfl rfl fun hs => ?_
    have hc' : s.portL.sending.isSome = true := by
      rcases hc with hc | hc | hc
      · exact hc
      · exact absurd (hup.symm.trans hc) (by decide)
      · exact absurd hc.2 (by simp [State.port, State.setPort])
    have hne : s.portL.sending ≠ none := fun hh => by simp [hh] at hc'
    exact ⟨⟨fun hd => by rcases hd with hd | hd <;> simp_all, fun hd => by simp_all⟩,
      rfl, by simp, .inl ⟨rfl, rfl⟩⟩
  · rw [h]
    refine .ofPort s _ s.ident s.noticeWaiting s.noticeSending rfl rfl rfl fun hs => ?_
    have := (key hs hn).1
    exact absurd (hb.symm.trans this) (by simp)
  · rw [h]
    have hq' : s.portL.ownQueue ++ [.notice] = e :: rest := hq
    have main : s.portL.Served → e = .notice ∧ rest = [] ∧ s.portL.bridge = [] ∧ s.portL.ownQueue = [] := by
      intro hs
      obtain ⟨hb, ho⟩ := key hs hn
      rw [ho] at hq'
      simp at hq'
      exact ⟨hq'.1.symm, hq'.2, hb, ho⟩
    have gen : ∀ (w : Option WaitingNotice) (v : Option Bytes) (g : Bytes),
        NoticeStep s
          { s with
            portL :=
              { s.portL with
                sending := some { kind := .own e, frame := g, wire := wireImage g }, lastServed := .own,
                ownQueue := rest }
            noticeWaiting := w, noticeSending := v } := by
      intro w v g
      refine .ofPort s _ s.ident w v rfl rfl rfl fun hs => ?_
      obtain ⟨rfl, rfl, hb, ho⟩ := main hs
      exact ⟨⟨fun _ => ⟨rfl, hb⟩, fun hd => absurd (hup.symm.trans hd) (by decide)⟩, rfl, by simp [ho],
        .inr ⟨hn, rfl, _, rfl, rfl⟩⟩
    cases e <;> exact gen _ _ _

/-- An offer of a notice to port L is a notice step. -/
theorem State.offerNotice_notice (s : State) : NoticeStep s (s.offerOwn .L .notice).1 := by
  rcases s.offerOwn_cases .L .notice with ⟨_, h⟩ | ⟨_, _, _, h⟩ | ⟨hup, _, h⟩
  · rw [h]; exact .ofPort s s.portL s.ident none s.noticeSending rfl rfl rfl fun hp => ⟨hp, .refl _⟩
  · rw [h]
    exact s.guardBlocked_notice.trans
      (.ofPort _ _ _ none _ rfl rfl rfl fun hp => ⟨hp, .refl _⟩)
  · rw [h]
    exact s.queueNotice_notice hup

/-- R195: one ask is a notice step. -/
theorem State.askNotice_notice (s : State) : NoticeStep s s.askNotice := by
  unfold State.askNotice
  cases s.noticeTarget with
  | none => exact .refl s
  | some d =>
    cases hw : s.noticeWaiting with
    | none =>
      exact (NoticeStep.ofPort s s.portL (s.ident + 1) _ s.noticeSending rfl rfl rfl
        fun hp => ⟨hp, .refl _⟩).trans (State.offerNotice_notice _)
    | some w =>
      show NoticeStep s (s.rewriteNotice d w)
      unfold State.rewriteNotice
      by_cases hg : guardPasses (s.noticeFrame d w.ident) = true
      · simp only [hg, if_true]
        exact .ofPort s s.portL s.ident _ s.noticeSending rfl rfl rfl fun hp => ⟨hp, .refl _⟩
      · simp only [hg]
        refine s.guardBlocked_notice.trans (.ofPort _ _ _ none _ rfl rfl rfl fun hp => ?_)
        refine ⟨⟨fun hd => ?_, hp.2⟩, rfl, by simp, .inl ⟨rfl, rfl⟩⟩
        have := hp.1 hd
        exact ⟨by simp [this.1], this.2⟩

/-- R195: repeated asks are a notice step. -/
theorem askNotices_notice (n : Nat) (s : State) : NoticeStep s (askNotices n s) := by
  induction n generalizing s with
  | zero => exact .refl s
  | succ n ih =>
    unfold askNotices
    by_cases h : s.levelsDiffer s.askNotice = true
    · simp only [h, if_true]
      exact s.askNotice_notice.trans (ih _)
    · simp only [h]
      exact s.askNotice_notice

/-! ## The end of an event -/

/-- The end of an event is the evaluation of the levels, then notice steps. -/
theorem conclude_notice (start : Bool) (before s : State) :
    NoticeStep s.evalLevels (conclude start before s) := by
  unfold conclude
  by_cases h : (start || before.noticeTarget.isNone || before.levelsDiffer s.evalLevels) = true
  · simp only [h, if_true]
    exact askNotices_notice 3 _
  · simp only [h]
    exact .refl _

/-- Notice steps leave every level condition as it is. -/
theorem NoticeStep.condition {a t : State} (h : NoticeStep a t) (e : EventSource) :
    t.condition e = a.condition e := by
  apply State.condition_congr
  · rw [h.others]
  · exact h.portL.1
  all_goals rw [h.others]

/-- While notices are not possible, the end of an event is the evaluation of the levels alone (R194). -/
theorem conclude_quiet (start : Bool) (before s : State) (h : s.noticeTarget = none) :
    conclude start before s = s.evalLevels := by
  have ha : s.evalLevels.askNotice = s.evalLevels := by
    unfold State.askNotice
    rw [show s.evalLevels.noticeTarget = none from h]
  have hd : s.evalLevels.levelsDiffer s.evalLevels = false := by simp [State.levelsDiffer]
  unfold conclude
  simp only [askNotices, ha, hd]
  simp

/-- What the end of an event does to a state (R190, R194). -/
theorem conclude_settles (start : Bool) (before s : State) : SettlesTo s (conclude start before s) := by
  have h := conclude_notice start before s
  refine ⟨?_, h.counters, ?_, ?_, ?_, h.portL, h.line, ?quiet⟩
  case quiet =>
    intro hn
    rw [conclude_quiet start before s hn]
    exact ⟨rfl, fun e he => s.evalLevels_edge e he⟩
  · rw [h.others]; rfl
  · intro e he hs
    exact h.latched e ((s.evalLevels_edge e he).trans hs)
  · intro e he h1 h2
    exact (h.unlatched e h1 h2).trans (s.evalLevels_edge e he)
  · intro e he
    have hc : (conclude start before s).condition e = s.condition e := h.condition e
    rw [hc, s.evalLevels_level e he]
    congr 1
    refine (h.unlatched e.idx ?_ ?_).symm <;>
      simp only [levelSources, List.mem_cons, List.not_mem_nil, or_false] at he <;>
      rcases he with rfl | rfl | rfl | rfl | rfl | rfl | rfl <;> decide

end Sys2Proof.Machine
end

