-- ==== Sys2Proof/Laws/Engine.lean ====
section
/-! SUPPORT. What the shared operations on the cipher engine, the key store, the frame store and the exchanges can
change, said once each. -/

namespace Sys2Proof.Machine

/-! ## Jobs and lanes (R112 to R117) -/

/-- A lane takes nothing, or the oldest waiting job (R114). -/
theorem State.takeOn_cases (s : State) (l : Fin 4) :
    (s.waiting = [] ∧ s.takeOn l = s) ∨
    (∃ j rest, s.waiting = j :: rest ∧
      s.takeOn l = { s with waiting := rest, lanes := s.lanes.set l (some (s.startJob j)) }) := by
  unfold State.takeOn
  rcases hw : s.waiting with _ | ⟨j, rest⟩
  · exact .inl ⟨rfl, rfl⟩
  · exact .inr ⟨j, rest, rfl, rfl⟩

theorem State.takeOn_shape (s : State) (l : Fin 4) :
    ∃ w v, s.takeOn l = { s with waiting := w, lanes := v } := by
  rcases s.takeOn_cases l with ⟨_, h⟩ | ⟨j, rest, _, h⟩
  · exact ⟨s.waiting, s.lanes, h⟩
  · exact ⟨_, _, h⟩

theorem State.takeJob_shape (s : State) :
    ∃ w v, s.takeJob = { s with waiting := w, lanes := v } := by
  unfold State.takeJob
  cases firstFree s.lanes with
  | none => exact ⟨s.waiting, s.lanes, rfl⟩
  | some l => exact s.takeOn_shape l

/-- An entering job moves the waiting list and the lanes alone (R112, R114). -/
theorem State.enterJob_shape (s : State) (j : Job) :
    ∃ w v, s.enterJob j = { s with waiting := w, lanes := v } := by
  obtain ⟨w, v, h⟩ := State.takeJob_shape { s with waiting := s.waiting ++ [j] }
  exact ⟨w, v, h⟩

/-- A freed entry moves the waiting list, the lanes and the job waiting in MGU alone (R113). -/
theorem State.admitWaiting_shape (s : State) :
    ∃ w v m, s.admitWaiting = { s with waiting := w, lanes := v, mgmtWaiting := m } := by
  unfold State.admitWaiting
  cases hm : s.mgmtWaiting with
  | none => exact ⟨s.waiting, s.lanes, s.mgmtWaiting, rfl⟩
  | some j =>
    by_cases h : s.occupied < Config.queueEntries
    · simp only [h, if_true]
      obtain ⟨w, v, e⟩ := State.enterJob_shape { s with mgmtWaiting := none } j
      exact ⟨w, v, none, e⟩
    · simp only [h, if_false]
      exact ⟨s.waiting, s.lanes, s.mgmtWaiting, rfl⟩

/-- An offer of a management job (R113): the engine's lists move, a fresh identity is used, and the context names
the job. -/
theorem State.offerMgmt_shape (s : State) (k : JobWork) :
    ∃ w v m, s.offerMgmt k =
      { s with
        waiting := w, lanes := v, mgmtWaiting := m, nextJob := s.nextJob + 1
        context := s.context.map fun c => { c with job := some s.nextJob } } := by
  unfold State.offerMgmt
  simp only []
  split
  · obtain ⟨w, v, e⟩ := State.enterJob_shape
      { s with
        nextJob := s.nextJob + 1
        context := s.context.map fun c => { c with job := some s.nextJob } }
      { id := s.nextJob, work := k }
    exact ⟨w, v, s.mgmtWaiting, e⟩
  · exact ⟨s.waiting, s.lanes, _, rfl⟩

/-- A completion's effect on the engine (R116, steps 1 and 2). -/
theorem State.finishLane_shape (s : State) (l : Fin 4) :
    ∃ w v m, s.finishLane l = { s with waiting := w, lanes := v, mgmtWaiting := m } := by
  unfold State.finishLane
  obtain ⟨w, v, h⟩ := State.takeOn_shape { s with lanes := s.lanes.set l none } l
  rw [h]
  obtain ⟨w', v', m', h'⟩ := State.admitWaiting_shape
    { s with lanes := v, waiting := w }
  exact ⟨w', v', m', h'⟩

/-! ## A job as it runs is the job as it was entered (R111, R115, Table 6-1) -/

@[simp] theorem State.startJob_id (s : State) (j : Job) : (s.startJob j).id = j.id := by
  obtain ⟨n, w⟩ := j
  cases w <;> rfl

@[simp] theorem State.startJob_frame (s : State) (j : Job) : (s.startJob j).frame = j.work.frame := by
  obtain ⟨n, w⟩ := j
  cases w <;> rfl

@[simp] theorem State.startJob_wraps (s : State) (j : Job) : (s.startJob j).wraps = j.work.wraps := by
  obtain ⟨n, w⟩ := j
  cases w <;> rfl

@[simp] theorem State.startJob_verifies (s : State) (j : Job) : (s.startJob j).verifies = j.work.verifies := by
  obtain ⟨n, w⟩ := j
  cases w <;> rfl

/-! ## References (R62, R63) -/

/-- A release lowers the count, also where it empties a DRAINING bank. -/
@[simp] theorem KeyBank.release_refs (b : KeyBank) (n : Nat) : (b.release n).refs = b.refs - n := by
  unfold KeyBank.release
  split
  · rename_i h
    exact h.2.symm
  · rfl

/-- A bank that is DRAINING after a release still holds references (R63). -/
theorem KeyBank.release_draining (b : KeyBank) (n : Nat) (h : (b.release n).state = .draining) :
    1 ≤ b.refs - n := by
  unfold KeyBank.release at h
  split at h
  · cases h
  · rename_i h'
    exact Nat.one_le_iff_ne_zero.mpr fun hz => h' ⟨h, hz⟩

/-- A bank given up is DRAINING only with references (R72, R73). -/
theorem KeyBank.giveUp_draining (b : KeyBank) (h : b.giveUp.state = .draining) : 1 ≤ b.giveUp.refs := by
  unfold KeyBank.giveUp at h ⊢
  split at h
  · cases h
  · rename_i hz
    rw [if_neg hz]
    exact Nat.one_le_iff_ne_zero.mpr hz

/-- Releasing references changes the one bank alone. -/
theorem State.releaseRefs_eq (s : State) (k : Fin 16) (b : BankId) (n : Nat) :
    s.releaseRefs k b n =
      { s with slots := s.slots.set k (s.slots[k].setBank b ((s.slots[k].bank b).release n)) } := rfl

/-- Taking references changes the one bank alone. -/
theorem State.takeRefs_eq (s : State) (k : Fin 16) (b : BankId) (n : Nat) :
    s.takeRefs k b n =
      { s with
        slots := s.slots.set k (s.slots[k].setBank b
          { s.slots[k].bank b with refs := (s.slots[k].bank b).refs + n }) } := rfl

/-! ## Closing an exchange (R107) -/

/-- A removed job leaves the waiting list, and its frame slot is freed (R117). -/
theorem State.removeJob_shape (s : State) (j : Job) :
    ∃ fr fs, s.removeJob j =
      { s with waiting := s.waiting.filter fun k => k.id ≠ j.id, frames := fr, freeSlots := fs } := by
  unfold State.removeJob
  cases j.work.frame with
  | none => exact ⟨s.frames, s.freeSlots, rfl⟩
  | some f => exact ⟨_, _, rfl⟩

/-- A close removes the record of its entry, and moves key store references, the engine's lists and the frame
store; nothing else. -/
theorem State.closeExchange_shape (s : State) (i : Fin 128) (n : Nat) :
    ∃ sl w v m fr fs, s.closeExchange i n =
      { s with
        tills := s.tills.set i { s.tills[i] with exchange := none }
        slots := sl, waiting := w, lanes := v, mgmtWaiting := m, frames := fr, freeSlots := fs } := by
  unfold State.closeExchange
  cases hx : s.tills[i].exchange with
  | none =>
    refine ⟨s.slots, s.waiting, s.lanes, s.mgmtWaiting, s.frames, s.freeSlots, ?_⟩
    have h : ({ s.tills[i] with exchange := none } : TillEntry) = s.tills[i] := by rw [← hx]
    rw [h]
    simp only [Fin.getElem_fin, Vector.set_getElem_self]
  | some x =>
    simp only []
    cases hf : (s.setExchange i none).waiting.find? fun j => decide (x.job = some j.id) with
    | none => exact ⟨_, s.waiting, s.lanes, s.mgmtWaiting, s.frames, s.freeSlots, rfl⟩
    | some j =>
      simp only []
      obtain ⟨fr, fs, h⟩ := State.removeJob_shape (s.setExchange i none) j
      rw [h, State.releaseRefs_eq]
      obtain ⟨w, v, m, h'⟩ := State.admitWaiting_shape
        { s.setExchange i none with
          waiting := (s.setExchange i none).waiting.filter fun k => k.id ≠ j.id
          frames := fr, freeSlots := fs
          slots := (s.setExchange i none).slots.set x.slot
            (((s.setExchange i none).slots[x.slot]).setBank x.bank
              ((((s.setExchange i none).slots[x.slot]).bank x.bank).release 2)) }
      exact ⟨_, w, v, m, fr, fs, h'⟩

/-- An entry without an exchange is closed with no effect. -/
theorem State.closeExchange_none (s : State) (i : Fin 128) (n : Nat)
    (h : s.tills[i].exchange = none) : s.closeExchange i n = s := by
  unfold State.closeExchange
  rw [h]

/-! ## Ports (R6, R19, R20) -/

/-- The arbiter on a port: its transmitter, sources and `last served` may move, and EVU's notice buffers. -/
theorem State.arbiter_shape (s : State) (p : PortId) :
    ∃ x w n, s.arbiter p = { s.setPort p x with noticeWaiting := w, noticeSending := n } ∧
      x.link = (s.port p).link ∧ x.arp = (s.port p).arp ∧ x.receive = (s.port p).receive := by
  refine ⟨(s.arbiter p).port p, (s.arbiter p).noticeWaiting, (s.arbiter p).noticeSending, ?_⟩
  rcases s.arbiter_cases p with ⟨h, _⟩ | ⟨f, rest, _, _, _, _, h⟩ | ⟨e, rest, _, _, _, _, h⟩
  · rw [h]; cases p <;> exact ⟨rfl, rfl, rfl, rfl⟩
  · rw [h]; cases p <;> exact ⟨rfl, rfl, rfl, rfl⟩
  · rw [h]; cases e <;> cases p <;> exact ⟨rfl, rfl, rfl, rfl⟩

/-- Releasing an entry that is not the management response leaves MGU, the tables, the tills, the key store and the
engine alone: it moves the frame store, the stand-in buffer, the notice buffer or a port's ARP buffers. -/
theorem State.releaseEntry_shape (s : State) (p : PortId) (e : OwnEntry) (h : e ≠ .response) :
    ∃ fr fs sb w x, s.releaseEntry p e =
      { s.setPort p x with frames := fr, freeSlots := fs, standIns := sb, noticeWaiting := w } ∧
      x = { s.port p with arp := x.arp } := by
  cases e with
  | wrapped i =>
    exact ⟨_, _, s.standIns, s.noticeWaiting, s.port p, by cases p <;> rfl, rfl⟩
  | forwarded i =>
    exact ⟨_, _, s.standIns, s.noticeWaiting, s.port p, by cases p <;> rfl, rfl⟩
  | standIn e => exact ⟨s.frames, s.freeSlots, _, s.noticeWaiting, s.port p, by cases p <;> rfl, rfl⟩
  | response => exact absurd rfl h
  | notice => exact ⟨s.frames, s.freeSlots, s.standIns, none, s.port p, by cases p <;> rfl, rfl⟩
  | arp b =>
    exact ⟨s.frames, s.freeSlots, s.standIns, s.noticeWaiting,
      { s.port p with arp := (s.port p).arp.set b none }, by cases p <;> rfl, rfl⟩

/-! ## Stand-ins (R109, R110) -/

/-- An offer to port T of an entry other than the response: port T, the frame store, the stand-in buffer and EVU's
notice buffers may move; port T's link does not. -/
theorem State.offerT_shape (s : State) (e : OwnEntry) (h : e ≠ .response) :
    ∃ x fr fs sb w n, (s.offerOwn .T e).1 =
      { s with portT := x, frames := fr, freeSlots := fs, standIns := sb, noticeWaiting := w,
               noticeSending := n } ∧ x.link = s.portT.link := by
  rcases s.offerOwn_cases .T e with ⟨_, hh⟩ | ⟨_, hp, _, _⟩ | ⟨_, _, hh⟩
  · rw [hh]
    obtain ⟨fr, fs, sb, w, x, h1, h2⟩ := s.releaseEntry_shape .T e h
    refine ⟨x, fr, fs, sb, w, s.noticeSending, h1, ?_⟩
    rw [h2]; rfl
  · exact absurd hp (by decide)
  · rw [hh]
    obtain ⟨x, w, n, h1, h2, _, _⟩ := State.arbiter_shape
      (s.setPort .T { s.port .T with ownQueue := (s.port .T).ownQueue ++ [e] }) .T
    exact ⟨x, s.frames, s.freeSlots, s.standIns, w, n, h1, h2⟩

/-- A stand-in decided (R109, R110): counters, statuses and the till's refusals move, and the stand-in's way to port
T; nothing of the exchanges, the key store, the engine, the tables or MGU. -/
theorem State.standIn_shape (s : State) (i : Fin 128) (r : Reason) (q : Option Sequence)
    (port : UdpPort) :
    ∃ st cs k x fr fs sb d w n, s.standIn i r q port =
      { s with
        status := st, counters := cs, tills := s.tills.set i (s.tills[i].setStat .refusals k)
        portT := x, frames := fr, freeSlots := fs, standIns := sb, ident := d, noticeWaiting := w
        noticeSending := n } ∧ x.link = s.portT.link := by
  have hcount : ∃ st cs k, s.countStandIn i r =
      { s with
        status := st, counters := cs
        tills := s.tills.set i (s.tills[i].setStat .refusals k) } := by
    unfold State.countStandIn
    by_cases hr : r = .replyLost
    · have hk : s.tills[i].setStat .refusals s.tills[i].refusals = s.tills[i] := rfl
      have hset : s.tills.set i s.tills[i] = s.tills := by
        simp only [Fin.getElem_fin, Vector.set_getElem_self]
      refine ⟨(s.bump (.standIns r)).status, (s.bump (.standIns r)).counters,
        s.tills[i].refusals, ?_⟩
      rw [hk, hset, if_pos hr, State.bump_eq]
    · rw [if_neg hr, State.bumpStat_eq, State.bump_eq]
      exact ⟨_, _, _, rfl⟩
  obtain ⟨st, cs, k, hc⟩ := hcount
  unfold State.standIn
  rw [hc]
  unfold State.buildStandIn
  cases firstFree s.standIns with
  | none =>
    simp only []
    rw [State.bump_eq]
    exact ⟨_, _, k, s.portT, s.frames, s.freeSlots, s.standIns, s.ident, s.noticeWaiting,
      s.noticeSending, rfl, rfl⟩
  | some e =>
    simp only []
    obtain ⟨x, fr, fs, sb, w, n, h1, h2⟩ := State.offerT_shape
      { s with
        status := st, counters := cs
        tills := s.tills.set i (s.tills[i].setStat .refusals k)
        standIns := s.standIns.set e (some (buildUdp (({ s with
          status := st, counters := cs
          tills := s.tills.set i (s.tills[i].setStat .refusals k) } : State).tillHeaders i port)
          (standInPayload r q)))
        ident := s.ident + 1 } (.standIn e) (by simp)
    exact ⟨st, cs, k, x, fr, fs, sb, s.ident + 1, w, n, h1, h2⟩

end Sys2Proof.Machine
end

