-- ==== Sys2Proof/Laws/Items.lean ====
section
/-! SUPPORT. What an item command can do, said once: nothing, a refusal of the item in hand, or the item's own rule
(R171, R173, R179). -/

namespace Sys2Proof.Machine

/-- The item in hand is the one the commands look for. -/
theorem State.itemInHand_iff (s : State) (p : Nat → Bool) (c : Context) (item : Item) :
    s.itemInHand p = some (c, item) ↔ s.InHand c item ∧ p item.kind.toNat = true := by
  unfold State.itemInHand State.InHand
  cases hm : s.mgu <;> cases hc : s.context <;> cases hi : s.itemAt <;> simp
  constructor
  · rintro ⟨⟨h1, h2⟩, rfl, rfl⟩; exact ⟨⟨rfl, h1, rfl⟩, h2⟩
  · rintro ⟨⟨rfl, h1, rfl⟩, h2⟩; exact ⟨⟨h1, h2⟩, rfl, rfl⟩

/-- Dropping an open stage changes the load state alone (R179). -/
theorem State.dropStage_eq (s : State) : s.dropStage = { s with load := s.load.dropped } := by
  unfold State.dropStage LoadState.dropped
  cases h : s.load <;> simp only [] <;> rw [← h]

/-- An answer after a dropped stage, in the words of the claims. -/
theorem State.dropStage_answer (s : State) (c : Context) (h : s.context = some c) (kind : Byte)
    (r : ResultCode) (body : Bytes) :
    s.dropStage.answer kind r body = s.answered c kind r body := by
  rw [State.dropStage_eq]
  unfold State.answer State.answered resultEntry
  simp [h]

/-- One item event (R171). -/
theorem itemEvent_cases (start : Bool) (p : Nat → Bool) (act : State → Context → Item → State)
    (s : State) :
    (s.itemInHand p = none ∧ itemEvent start p act s = .next s) ∨
    (∃ c item, s.InHand c item ∧ p item.kind.toNat = true ∧
      ((∃ r, s.refusalOf c item = some r ∧
          itemEvent start p act s = .next (conclude false s (s.answered c item.kind r []))) ∨
        (s.refusalOf c item = none ∧
          itemEvent start p act s = .next (conclude start s (act s c item))))) := by
  unfold itemEvent
  cases h : s.itemInHand p with
  | none => exact .inl ⟨rfl, rfl⟩
  | some x =>
    obtain ⟨c, item⟩ := x
    have hi := (s.itemInHand_iff p c item).mp h
    refine .inr ⟨c, item, hi.1, hi.2, ?_⟩
    simp only []
    cases hr : s.refusalOf c item with
    | none => exact .inr ⟨rfl, rfl⟩
    | some r =>
      exact .inl ⟨r, rfl, by simp only [State.dropStage_answer s c hi.1.2.1]⟩

/-- An item in hand that is neither refused for its origin nor for its form has its own rule. -/
theorem itemEvent_act (start : Bool) (p : Nat → Bool) (act : State → Context → Item → State)
    (s : State) (c : Context) (item : Item) (hi : s.InHand c item) (hp : p item.kind.toNat = true)
    (hr : s.refusalOf c item = none) :
    itemEvent start p act s = .next (conclude start s (act s c item)) := by
  have h := (s.itemInHand_iff p c item).mpr ⟨hi, hp⟩
  unfold itemEvent
  rw [h]
  simp only [hr]

/-- An item in hand refused for its origin or its form. -/
theorem itemEvent_refused (start : Bool) (p : Nat → Bool) (act : State → Context → Item → State)
    (s : State) (c : Context) (item : Item) (r : ResultCode) (hi : s.InHand c item)
    (hp : p item.kind.toNat = true) (hr : s.refusalOf c item = some r) :
    itemEvent start p act s = .next (conclude false s (s.answered c item.kind r [])) := by
  have h := (s.itemInHand_iff p c item).mpr ⟨hi, hp⟩
  unfold itemEvent
  rw [h]
  simp only [hr, State.dropStage_answer s c hi.2.1]

/-- Every item of the remote origin with a body of the right length passes both steps (R171, R173). -/
theorem State.refusalOf_remote (s : State) (c : Context) (item : Item) (ho : c.origin = .remote)
    (hb : bodyForm item.kind.toNat item.body = some true) : s.refusalOf c item = none := by
  unfold State.refusalOf permitted
  simp [ho, hb]

/-- A write item carried out. -/
theorem writeItem_done (code : Nat) (rule : State → Bytes → Except ResultCode State) (s s1 : State)
    (c : Context) (item : Item) (hi : s.InHand c item) (hp : item.kind.toNat = code)
    (hr : s.refusalOf c item = none) (hok : rule s.dropStage item.body = .ok s1) :
    writeItem code rule s = .next (conclude false s (s1.answer item.kind .done [])) := by
  unfold writeItem
  rw [itemEvent_act false _ _ s c item hi (by simp [hp]) hr]
  simp only [hok]

/-- A write item refused by its own rule. -/
theorem writeItem_refused (code : Nat) (rule : State → Bytes → Except ResultCode State) (s : State)
    (c : Context) (item : Item) (r : ResultCode) (hi : s.InHand c item) (hp : item.kind.toNat = code)
    (hr : s.refusalOf c item = none) (he : rule s.dropStage item.body = .error r) :
    writeItem code rule s = .next (conclude false s (s.answered c item.kind r [])) := by
  unfold writeItem
  rw [itemEvent_act false _ _ s c item hi (by simp [hp]) hr]
  simp only [he, State.dropStage_answer s c hi.2.1]

/-- A read item carried out (R172). -/
theorem readItem_done (code : Nat) (rule : State → Bytes → Except ResultCode Bytes) (s : State)
    (c : Context) (item : Item) (body : Bytes) (hi : s.InHand c item) (hp : item.kind.toNat = code)
    (hr : s.refusalOf c item = none) (hok : rule s.dropStage item.body = .ok body) :
    readItem code rule s = .next (conclude false s
      (if s.Fits c body then s.answered c item.kind .done body
       else s.answered c item.kind .notExecuted [])) := by
  have hf : (s.response.length + 4 + body.length + 4 * (itemCount s.message - c.nextItem) + 8 ≤
      Config.bufferBytes) ↔ s.Fits c body := by
    unfold State.Fits Config.bufferBytes
    omega
  unfold readItem
  rw [itemEvent_act false _ _ s c item hi (by simp [hp]) hr]
  simp only [hok]
  unfold State.answerRead
  have hd : s.dropStage.response = s.response ∧ s.dropStage.message = s.message ∧
      s.dropStage.context = some c := by
    rw [State.dropStage_eq]; exact ⟨rfl, rfl, hi.2.1⟩
  rw [hd.1, hd.2.1, hd.2.2]
  by_cases h : s.Fits c body
  · simp only [Option.elim, hf.mpr h, h, if_true, State.dropStage_answer s c hi.2.1]
  · have h' : ¬ (s.response.length + 4 + body.length + 4 * (itemCount s.message - c.nextItem) + 8 ≤
        Config.bufferBytes) := fun k => h (hf.mp k)
    simp only [Option.elim, h', h, if_false, State.dropStage_answer s c hi.2.1]

/-- A read item refused by its own rule. -/
theorem readItem_refused (code : Nat) (rule : State → Bytes → Except ResultCode Bytes) (s : State)
    (c : Context) (item : Item) (r : ResultCode) (hi : s.InHand c item) (hp : item.kind.toNat = code)
    (hr : s.refusalOf c item = none) (he : rule s.dropStage item.body = .error r) :
    readItem code rule s = .next (conclude false s (s.answered c item.kind r [])) := by
  unfold readItem
  rw [itemEvent_act false _ _ s c item hi (by simp [hp]) hr]
  simp only [he, State.dropStage_answer s c hi.2.1]

end Sys2Proof.Machine
end

