-- ==== Sys2Proof/Laws/Receive.lean ====
section
/-! SUPPORT. The receive buffer of a port stands apart from every operation of an arrival: filling or emptying it before or after
one is the same (R14). -/

namespace Sys2Proof.Machine

theorem State.setReceive_setReceive (s : State) (p : PortId) (x y : Option Bytes) :
    (s.setReceive p x).setReceive p y = s.setReceive p y := by
  cases p <;> rfl

theorem State.setReceive_latch (s : State) (p : PortId) (x : Option Bytes) (e : EventSource) :
    (s.setReceive p x).latch e = (s.latch e).setReceive p x := by
  cases p <;> rfl

theorem State.setReceive_bump (s : State) (p : PortId) (x : Option Bytes) (c : Counter) :
    (s.setReceive p x).bump c = (s.bump c).setReceive p x := by
  rw [State.bump_eq, State.bump_eq]
  cases p <;> rfl

theorem State.setReceive_bumpStat (s : State) (p : PortId) (x : Option Bytes) (i : Fin 128) (k : Stat) :
    (s.setReceive p x).bumpStat i k = (s.bumpStat i k).setReceive p x := by
  rw [State.bumpStat_eq, State.bumpStat_eq]
  cases p <;> rfl

theorem State.setReceive_guardBlocked (s : State) (p : PortId) (x : Option Bytes) :
    (s.setReceive p x).guardBlocked = s.guardBlocked.setReceive p x := by
  unfold State.guardBlocked
  rw [State.setReceive_latch, State.setReceive_bump]

theorem State.setReceive_takeJob (s : State) (p : PortId) (x : Option Bytes) :
    (s.setReceive p x).takeJob = s.takeJob.setReceive p x := by
  cases p <;> unfold State.takeJob <;>
    simp only [show ∀ y, (s.setReceive .T y).lanes = s.lanes from fun _ => rfl,
      show ∀ y, (s.setReceive .L y).lanes = s.lanes from fun _ => rfl] <;>
    cases firstFree s.lanes <;> try rfl
  all_goals
    unfold State.takeOn
    simp only [show ∀ y, (s.setReceive .T y).waiting = s.waiting from fun _ => rfl,
      show ∀ y, (s.setReceive .L y).waiting = s.waiting from fun _ => rfl]
    cases s.waiting <;> rfl

theorem State.setReceive_enterJob (s : State) (p : PortId) (x : Option Bytes) (j : Job) :
    (s.setReceive p x).enterJob j = (s.enterJob j).setReceive p x := by
  unfold State.enterJob
  rw [← State.setReceive_takeJob]
  cases p <;> rfl

theorem State.setReceive_admitWaiting (s : State) (p : PortId) (x : Option Bytes) :
    (s.setReceive p x).admitWaiting = s.admitWaiting.setReceive p x := by
  unfold State.admitWaiting
  have hm : (s.setReceive p x).mgmtWaiting = s.mgmtWaiting := by cases p <;> rfl
  have ho : (s.setReceive p x).occupied = s.occupied := by cases p <;> rfl
  rw [hm, ho]
  cases s.mgmtWaiting with
  | none => rfl
  | some j =>
    dsimp only
    by_cases h : s.occupied < Config.queueEntries
    · simp only [h, if_true]
      rw [← State.setReceive_enterJob]
      cases p <;> rfl
    · simp only [h, if_false]

theorem State.setReceive_offerMgmt (s : State) (p : PortId) (x : Option Bytes) (w : JobWork) :
    (s.setReceive p x).offerMgmt w = (s.offerMgmt w).setReceive p x := by
  unfold State.offerMgmt
  have ho : (s.setReceive p x).occupied = s.occupied := by cases p <;> rfl
  by_cases h : s.occupied < Config.queueEntries
  · have h1 : ∀ n c, ({ s with nextJob := n, context := c } : State).occupied < Config.queueEntries := fun _ _ => h
    have h2 : ∀ n c, ({ s.setReceive p x with nextJob := n, context := c } : State).occupied <
        Config.queueEntries := fun _ _ => ho ▸ h
    simp only [h1, h2, if_true]
    rw [← State.setReceive_enterJob]
    cases p <;> rfl
  · have h1 : ∀ n c, ¬ ({ s with nextJob := n, context := c } : State).occupied < Config.queueEntries := fun _ _ => h
    have h2 : ∀ n c, ¬ ({ s.setReceive p x with nextJob := n, context := c } : State).occupied <
        Config.queueEntries := fun _ _ => ho ▸ h
    simp only [h1, h2, if_false]
    cases p <;> rfl

theorem State.setReceive_closeExchange (s : State) (p : PortId) (x : Option Bytes) (i : Fin 128) (n : Nat) :
    (s.setReceive p x).closeExchange i n = (s.closeExchange i n).setReceive p x := by
  unfold State.closeExchange
  have ht : (s.setReceive p x).tills = s.tills := by cases p <;> rfl
  simp only [ht]
  cases hx : s.tills[i].exchange with
  | none => rfl
  | some y =>
    dsimp only
    have hw : ((s.setReceive p x).setExchange i none).waiting = s.waiting := by cases p <;> rfl
    have hw' : (s.setExchange i none).waiting = s.waiting := rfl
    rw [hw, hw']
    cases s.waiting.find? fun j => decide (y.job = some j.id) with
    | none => cases p <;> rfl
    | some j =>
      dsimp only
      rw [← State.setReceive_admitWaiting]
      congr 1
      unfold State.removeJob
      cases j.work.frame <;> cases p <;> rfl

/-- An arbiter's act on either port leaves room for a receive buffer to be set before or after it. -/
theorem State.setReceive_arbiter (s : State) (p q : PortId) (x : Option Bytes) :
    (s.setReceive p x).arbiter q = (s.arbiter q).setReceive p x := by
  have h1 : ((s.setReceive p x).port q).sending = (s.port q).sending := by cases p <;> cases q <;> rfl
  have h2 : ((s.setReceive p x).port q).link = (s.port q).link := by cases p <;> cases q <;> rfl
  have h3 : ((s.setReceive p x).port q).bridge = (s.port q).bridge := by cases p <;> cases q <;> rfl
  have h4 : ((s.setReceive p x).port q).ownQueue = (s.port q).ownQueue := by cases p <;> cases q <;> rfl
  have h5 : ((s.setReceive p x).port q).lastServed = (s.port q).lastServed := by cases p <;> cases q <;> rfl
  have hb : ∀ f r, (s.setReceive p x).takeBridged q f r = (s.takeBridged q f r).setReceive p x := by
    intro f r; cases p <;> cases q <;> rfl
  have hf : ∀ e, (s.setReceive p x).heldFrame q e = s.heldFrame q e := by
    intro e; cases p <;> cases q <;> cases e <;> rfl
  have ho : ∀ e r, (s.setReceive p x).takeOwn q e r = (s.takeOwn q e r).setReceive p x := by
    intro e r
    unfold State.takeOwn
    rw [hf]
    cases p <;> cases q <;> cases e <;> rfl
  unfold State.arbiter
  rw [h1, h2, h3, h4, h5]
  by_cases h : (s.port q).sending.isSome ∨ (s.port q).link = .down
  · simp only [h, if_true]
  · simp only [h, if_false]
    cases (s.port q).bridge <;> cases (s.port q).ownQueue <;> cases (s.port q).lastServed <;>
      simp only [hb, ho]

theorem State.setReceive_releaseEntry (s : State) (p q : PortId) (x : Option Bytes) (e : OwnEntry) :
    (s.setReceive p x).releaseEntry q e = (s.releaseEntry q e).setReceive p x := by
  cases e <;> cases p <;> cases q <;> rfl

/-- An offer to an own-output queue, likewise. -/
theorem State.setReceive_offerOwn (s : State) (p q : PortId) (x : Option Bytes) (e : OwnEntry) :
    (s.setReceive p x).offerOwn q e = (((s.offerOwn q e).1).setReceive p x, (s.offerOwn q e).2) := by
  have h2 : ((s.setReceive p x).port q).link = (s.port q).link := by cases p <;> cases q <;> rfl
  have hf : (s.setReceive p x).heldFrame q e = s.heldFrame q e := by
    cases p <;> cases q <;> cases e <;> rfl
  unfold State.offerOwn
  rw [h2, hf]
  by_cases h : (s.port q).link = .down
  · simp only [h, if_true, State.setReceive_releaseEntry]
  · simp only [h, if_false]
    by_cases g : q = .L ∧ guardPasses (s.heldFrame q e) = false
    · rw [if_pos g, if_pos g, State.setReceive_guardBlocked, State.setReceive_releaseEntry]
    · rw [if_neg g, if_neg g]
      dsimp only
      rw [← State.setReceive_arbiter]
      congr 2
      cases p <;> cases q <;> rfl

theorem State.setReceive_standIn (s : State) (p : PortId) (x : Option Bytes) (i : Fin 128) (r : Reason)
    (q : Option Sequence) (port : UdpPort) :
    (s.setReceive p x).standIn i r q port = (s.standIn i r q port).setReceive p x := by
  have hc : (s.setReceive p x).countStandIn i r = (s.countStandIn i r).setReceive p x := by
    unfold State.countStandIn
    rw [State.setReceive_bump]
    by_cases h : r = .replyLost
    · simp only [h, if_true]
    · simp only [h, if_false]
      rw [State.setReceive_latch, State.setReceive_bumpStat]
  unfold State.standIn
  rw [hc]
  generalize s.countStandIn i r = a
  unfold State.buildStandIn
  have hs : (a.setReceive p x).standIns = a.standIns := by cases p <;> rfl
  rw [hs]
  cases firstFree a.standIns with
  | none => exact State.setReceive_bump _ _ _ _
  | some e =>
    have h := State.setReceive_offerOwn
      { a with
        standIns := a.standIns.set e (some (buildUdp (a.tillHeaders i port) (standInPayload r q)))
        ident := a.ident + 1 } p .T x (.standIn e)
    have h' := congrArg Prod.fst h
    refine Eq.trans ?_ h'
    cases p <;> rfl

/-! ## The arrival as a whole -/

theorem State.setReceive_offerBridge (s : State) (p q : PortId) (x : Option Bytes) (f : Bytes) :
    (s.setReceive p x).offerBridge q f = (s.offerBridge q f).setReceive p x := by
  have h2 : ((s.setReceive p x).port q).link = (s.port q).link := by cases p <;> cases q <;> rfl
  have h3 : ((s.setReceive p x).port q).bridge = (s.port q).bridge := by cases p <;> cases q <;> rfl
  unfold State.offerBridge
  rw [h2, h3]
  by_cases h : (s.port q).link = .down
  · rw [if_pos h, if_pos h, State.setReceive_bump]
  · rw [if_neg h, if_neg h]
    by_cases g : q = .L ∧ guardPasses f = false
    · rw [if_pos g, if_pos g, State.setReceive_guardBlocked]
    · rw [if_neg g, if_neg g]
      by_cases k : Config.bridgeCapacity ≤ (s.port q).bridge.length
      · rw [if_pos k, if_pos k, State.setReceive_bump]
      · rw [if_neg k, if_neg k, ← State.setReceive_arbiter]
        congr 1
        cases p <;> cases q <;> rfl

theorem State.setReceive_bridgeDecision (s : State) (p q : PortId) (x : Option Bytes) (f : Bytes) :
    (s.setReceive p x).bridgeDecision q f = (s.bridgeDecision q f).setReceive p x := by
  have h : (s.setReceive p x).settings = s.settings := by cases p <;> rfl
  unfold State.bridgeDecision
  rw [h]
  cases s.settings.bridgeMode
  · exact State.setReceive_bump _ _ _ _
  · exact State.setReceive_offerBridge _ _ _ _ _

theorem State.setReceive_arpArrive (s : State) (p : PortId) (x : Option Bytes) (f : Bytes) :
    (s.setReceive p x).arpArrive p f = (s.arpArrive p f).setReceive p x := by
  have h : ((s.setReceive p x).port p).arp = (s.port p).arp := by cases p <;> rfl
  unfold State.arpArrive
  rw [h]
  cases firstFree (s.port p).arp with
  | none => rfl
  | some b =>
    have k := congrArg Prod.fst (State.setReceive_offerOwn
      (s.setPort p
        { s.port p with
          arp := (s.port p).arp.set b (some (arpAnswer s.factory.station (s.ownAddress p) f)) })
      p p x (.arp b))
    refine Eq.trans ?_ k
    cases p <;> rfl

theorem State.setReceive_dropMalformed (s : State) (p : PortId) (x : Option Bytes) :
    (s.setReceive p x).dropMalformed = s.dropMalformed.setReceive p x := by
  unfold State.dropMalformed
  rw [State.setReceive_latch, State.setReceive_bump]

theorem State.setReceive_openExchange (s : State) (p : PortId) (x : Option Bytes) (c : Capture)
    (d : Destination) (b : BankId) (k : Fin 64) (rest : List (Fin 64)) (f : Bytes) :
    (s.setReceive p x).openExchange c d b k rest f = (s.openExchange c d b k rest f).setReceive p x := by
  unfold State.openExchange
  dsimp only
  rw [← State.setReceive_enterJob]
  cases p <;> rfl

theorem State.setReceive_admitNew (s : State) (p : PortId) (x : Option Bytes) (cap : RequestCapture)
    (f : Bytes) (m : Nat) :
    (s.setReceive p x).admitNew cap f m = (s.admitNew cap f m).setReceive p x := by
  have h1 : (s.setReceive p x).destinations = s.destinations := by cases p <;> rfl
  have h4 : (s.setReceive p x).freeSlots = s.freeSlots := by cases p <;> rfl
  have h5 : (s.setReceive p x).occupied = s.occupied := by cases p <;> rfl
  unfold State.admitNew
  cases cap with
  | refused i route r q port => exact State.setReceive_standIn _ _ _ _ _ _ _
  | accepted c =>
    dsimp only
    have hk : keyTest (s.setReceive p x).slots[((s.setReceive p x).tills[c.till]).slot] =
        keyTest s.slots[(s.tills[c.till]).slot] := by cases p <;> rfl
    rw [hk, h1, h4, h5]
    cases s.destinations[c.route] with
    | none => exact State.setReceive_standIn _ _ _ _ _ _ _
    | some d =>
      dsimp only
      by_cases ho : Config.wrapLimit < m + 24 + plainLength c
      · rw [if_pos ho, if_pos ho]
        exact State.setReceive_standIn _ _ _ _ _ _ _
      · rw [if_neg ho, if_neg ho]
        cases keyTest s.slots[(s.tills[c.till]).slot] with
        | error r => exact State.setReceive_standIn _ _ _ _ _ _ _
        | ok b =>
          dsimp only
          cases s.freeSlots with
          | nil => exact State.setReceive_standIn _ _ _ _ _ _ _
          | cons k rest =>
            dsimp only
            by_cases hq : s.occupied < Config.queueEntries
            · rw [if_pos hq, if_pos hq]
              exact State.setReceive_openExchange _ _ _ _ _ _ _ _ _
            · rw [if_neg hq, if_neg hq]
              exact State.setReceive_standIn _ _ _ _ _ _ _

theorem State.setReceive_paymentArrive (s : State) (p : PortId) (x : Option Bytes) (f : Bytes) :
    (s.setReceive p x).paymentArrive f = (s.paymentArrive f).setReceive p x := by
  have h0 : ∀ g, (s.setReceive p x).findTill g = s.findTill g := by intro g; cases p <;> rfl
  have h1 : (s.setReceive p x).rules = s.rules := by cases p <;> rfl
  have h2 : (s.setReceive p x).locators = s.locators := by cases p <;> rfl
  unfold State.paymentArrive
  rw [h0, h1, h2]
  cases s.findTill fun t => t.valid && t.ip == ipSource f with
  | none =>
    dsimp only
    rw [State.setReceive_latch, State.setReceive_bump]
  | some i =>
    dsimp only
    cases classify s.rules (udpPayload f) with
    | none =>
      dsimp only
      rw [State.setReceive_latch, State.setReceive_bump]
    | some r =>
      dsimp only
      rw [State.setReceive_bump]
      generalize s.bump .requestsRecognised = a
      generalize captureRequest i r s.locators[r.locator] (udpPayload f) (udpSource f) = cap
      unfold State.admission
      have ht : (a.setReceive p x).tills = a.tills := by cases p <;> rfl
      rw [ht]
      cases a.tills[cap.till].exchange with
      | none => exact State.setReceive_admitNew _ _ _ _ _ _
      | some y =>
        dsimp only
        by_cases hd : cap.seq = some y.seq
        · rw [if_pos hd, if_pos hd]
          exact State.setReceive_bump _ _ _ _
        · rw [if_neg hd, if_neg hd, State.setReceive_closeExchange, State.setReceive_bump]
          exact State.setReceive_admitNew _ _ _ _ _ _

theorem State.setReceive_replyArrive (s : State) (p : PortId) (x : Option Bytes) (f : Bytes) :
    (s.setReceive p x).replyArrive f = (s.replyArrive f).setReceive p x := by
  have h0 : ∀ g, (s.setReceive p x).findTill g = s.findTill g := by intro g; cases p <;> rfl
  have h2 : (s.setReceive p x).tills = s.tills := by cases p <;> rfl
  have h4 : (s.setReceive p x).freeSlots = s.freeSlots := by cases p <;> rfl
  have h5 : (s.setReceive p x).occupied = s.occupied := by cases p <;> rfl
  have hl : (s.setReceive p x).lateReply = s.lateReply.setReceive p x := by
    unfold State.lateReply
    rw [State.setReceive_latch, State.setReceive_bump]
  unfold State.replyArrive
  dsimp only
  rw [h0]
  by_cases hf : replyFormOk (udpPayload f) = true
  · rw [if_pos hf, if_pos hf]
    cases s.findTill fun t =>
        t.valid && t.number == fieldNat (replyTrailer (udpPayload f)) 6 2 &&
          decide (1 ≤ fieldNat (replyTrailer (udpPayload f)) 6 2 ∧
            fieldNat (replyTrailer (udpPayload f)) 6 2 ≤ Config.tillNumberMax) with
    | none => exact hl
    | some i =>
      dsimp only
      unfold State.matchReply
      rw [h2, h4, h5]
      cases s.tills[i].exchange with
      | none => exact hl
      | some y =>
        dsimp only
        cases y.phase with
        | admitted => exact hl
        | verifying => exact State.setReceive_bump _ _ _ _
        | awaiting =>
          dsimp only
          by_cases hm : replyMatches y (replyTrailer (udpPayload f)) = true
          · rw [if_pos hm, if_pos hm]
            cases s.freeSlots with
            | nil => exact State.setReceive_bump _ _ _ _
            | cons k rest =>
              dsimp only
              by_cases hq : s.occupied < Config.queueEntries
              · rw [if_pos hq, if_pos hq]
                unfold State.acceptReply
                dsimp only
                rw [← State.setReceive_enterJob]
                cases p <;> rfl
              · rw [if_neg hq, if_neg hq]
                exact State.setReceive_bump _ _ _ _
          · rw [if_neg hm, if_neg hm]
            exact hl
  · rw [if_neg hf, if_neg hf]
    exact State.setReceive_dropMalformed _ _ _

theorem State.setReceive_mgmtArrive (s : State) (p q : PortId) (x : Option Bytes) (b : Bool) (f : Bytes) :
    (s.setReceive p x).mgmtArrive q b f = (s.mgmtArrive q b f).setReceive p x := by
  have h0 : (s.setReceive p x).mgu = s.mgu := by cases p <;> rfl
  have h1 : (s.setReceive p x).factory = s.factory := by cases p <;> rfl
  have h2 : (s.setReceive p x).mgmtKeys = s.mgmtKeys := by cases p <;> rfl
  have hr : (s.setReceive p x).rejectMessage = s.rejectMessage.setReceive p x := by
    unfold State.rejectMessage
    rw [← State.setReceive_bump, ← State.setReceive_latch]
    cases p <;> rfl
  unfold State.mgmtArrive
  dsimp only
  rw [h0, h1, h2]
  by_cases hm : s.mgu ≠ .idle
  · rw [if_pos hm, if_pos hm]
    exact State.setReceive_bump _ _ _ _
  · rw [if_neg hm, if_neg hm]
    cases messageFormOk s.factory.serial (udpPayload f) <;>
      cases s.mgmtKeys.verifying (originOf q b) <;> dsimp only
    · exact hr
    · exact hr
    · exact hr
    · rw [← State.setReceive_offerMgmt]
      cases p <;> rfl

theorem State.setReceive_unmatched (s : State) (p q : PortId) (x : Option Bytes) (f : Bytes) :
    (s.setReceive p x).unmatched q f = (s.unmatched q f).setReceive p x := by
  have h : (s.setReceive p x).toReplaced (originOf q false) f = s.toReplaced (originOf q false) f := by
    cases p <;> rfl
  unfold State.unmatched
  rw [h]
  split
  · exact State.setReceive_bump _ _ _ _
  · exact State.setReceive_dropMalformed _ _ _

/-- The whole dispatch of an arrival, likewise. -/
theorem State.setReceive_arrive (s : State) (p : PortId) (x : Option Bytes) (f : Bytes) :
    (s.setReceive p x).arrive p f = (s.arrive p f).setReceive p x := by
  have h1 : (s.setReceive p x).factory = s.factory := by cases p <;> rfl
  have h2 : (s.setReceive p x).ownAddress p = s.ownAddress p := by cases p <;> rfl
  have h3 : (s.setReceive p x).addressed p f = s.addressed p f := by cases p <;> rfl
  have h4 : (s.setReceive p x).bootstrap p f = s.bootstrap p f := by cases p <;> rfl
  have h5 : (s.setReceive p x).settings = s.settings := by cases p <;> rfl
  have h6 : (s.setReceive p x).bootstrapReplaced p f = s.bootstrapReplaced p f := by cases p <;> rfl
  unfold State.arrive State.deliver
  rw [h1, h2, h3, h4, h5, h6]
  by_cases a1 : isArpRequest s.factory.station (s.ownAddress p) f = true
  · rw [if_pos a1, if_pos a1]
    exact State.setReceive_arpArrive _ _ _ _
  · rw [if_neg a1, if_neg a1]
    by_cases a2 : (s.addressed p f || s.bootstrap p f) = true
    · rw [if_pos a2, if_pos a2]
      by_cases a3 : acceptsFrame f = true
      · rw [if_pos a3, if_pos a3]
        by_cases a4 : ipProtocol f ≠ 17
        · rw [if_pos a4, if_pos a4]
          exact State.setReceive_dropMalformed _ _ _
        · rw [if_neg a4, if_neg a4]
          by_cases a5 : portMatches s.settings.managementPort (udpDestination f) = true
          · rw [if_pos a5, if_pos a5]
            exact State.setReceive_mgmtArrive _ _ _ _ _ _
          · rw [if_neg a5, if_neg a5]
            cases p with
            | T =>
              dsimp only
              split
              · split
                · exact State.setReceive_paymentArrive _ _ _ _
                · exact State.setReceive_bridgeDecision _ _ _ _ _
              · exact State.setReceive_unmatched _ _ _ _ _
            | L =>
              dsimp only
              split
              · exact State.setReceive_replyArrive _ _ _ _
              · exact State.setReceive_unmatched _ _ _ _ _
      · rw [if_neg a3, if_neg a3]
        exact State.setReceive_dropMalformed _ _ _
    · rw [if_neg a2, if_neg a2]
      by_cases a6 : s.bootstrapReplaced p f = true
      · rw [if_pos a6, if_pos a6]
        exact State.setReceive_bump _ _ _ _
      · rw [if_neg a6, if_neg a6]
        exact State.setReceive_bridgeDecision _ _ _ _ _

/-- An arrival answers the state after its dispatch with the receive buffer empty (R3, R14). -/
theorem execFrameReceived_arrives (s : State) (p : PortId) (wire f : Bytes) (h : s.Arrives p wire f) :
    execFrameReceived p wire s = .next (conclude false s ((s.setReceive p none).arrive p f)) := by
  obtain ⟨h1, h2, h3⟩ := h
  unfold execFrameReceived
  rw [if_neg (by rw [h1]; decide), if_pos h2]
  dsimp only
  rw [← State.setReceive_arrive, State.setReceive_setReceive, h3]
  rfl

end Sys2Proof.Machine
end

