-- ==== Sys2Proof/WellFormed.lean ====
section
/-! DEFINITION. Which commands a sender can send. Lanes and till entries are bounded by their types; what
is left is that a received frame ends with its 4-byte frame check sequence (R3). -/

namespace Sys2Proof

/-- A command the block's surroundings can produce: a frame counts as received only when its frame check
sequence has arrived (R3), so its bytes hold at least those 4. -/
def Instr.wellFormed : Instr → Bool
  | .frameReceived _ bytes => decide (4 ≤ bytes.length)
  | .powerOnReset | .eraseLineAsserted | .uptimeTick | .deadlineExpiry _ | .linkUp _ | .linkDown _
  | .transmissionComplete _ | .wrapCompletion _ | .verifyCompletion _ | .mgmtTagResult
  | .keyUnwrapResult | .responseCompletion | .responseTagResult | .readSettings | .writeSettings
  | .readTill | .writeTill | .clearTill | .readRule | .writeRule | .clearRule | .readLocator
  | .writeLocator | .clearLocator | .readDestination | .writeDestination | .clearDestination
  | .readSlot | .stageOpen | .stageKeys | .switch | .retire | .discardStage | .readEvents
  | .writeEventMap | .writeEventEnables | .clearEvents | .readCounters | .clearCounters
  | .loadMgmtKeys | .restart | .erase | .eraseLineDeasserted | .batterySupplyLost
  | .unknownItemKind => true

end Sys2Proof
end

