-- ==== Sys2Proof/Tests/Slice0.lean ====
section
/-! SUPPORT. Tests of the model: the manual's worked cases (the section is named at each), the ill-formed
command that WellFormed refuses, and for every statement of Certificates/Slice0/Obligations.lean a state and
operands that meet its hypotheses (the statement is named in the theorem's name). Each is about one step. -/

open Sys2Proof Sys2Proof.Machine

namespace Sys2Proof.Tests

set_option Elab.async false

/-- The state after one command, if it answers one. -/
def next (c : Instr) (s : State) : Option State :=
  match exec c s with
  | .next t => some t
  | .fault _ | .refused _ => none

/-! ## Well-formed commands, and the words of the table -/

theorem test_wellFormed_refuses_short_frame :
    (Instr.frameReceived .T [1, 2, 3]).wellFormed = false := by decide

theorem test_wellFormed_allows_fcs_alone :
    (Instr.frameReceived .L [1, 2, 3, 4]).wellFormed = true := by decide

theorem test_no_word_spells_a_command : decodeTableWord 8 0 = none := by decide

/-! ## Published vectors of the cipher and the frame check sequence -/

/-- The AES-128 example vector of the published standard. -/
theorem test_cipherE_vector :
    cipherE 0x000102030405060708090a0b0c0d0e0f 0x00112233445566778899aabbccddeeff =
      0x69c4e0d86a7b0430d8cdb78070b4c55a := by decide +kernel

theorem test_cipherD_vector :
    cipherD 0x000102030405060708090a0b0c0d0e0f 0x69c4e0d86a7b0430d8cdb78070b4c55a =
      0x00112233445566778899aabbccddeeff := by decide +kernel

/-- The check value CBF43926h of the string 123456789, sent least significant byte first. -/
theorem test_fcs_vector :
    fcs [0x31, 0x32, 0x33, 0x34, 0x35, 0x36, 0x37, 0x38, 0x39] = [0x26, 0x39, 0xF4, 0xCB] := by
  decide +kernel

/-! ## Section 8.2.1: a header checksum -/

/-- The header of section 8.2.1 with a given checksum. -/
def header821 (check : Nat) : Bytes :=
  beBytes 20 (0x450000640000400040110000 * 2 ^ 64 + check * 2 ^ 64 + 0x0A140005AC100302)

theorem test_header_checksum : checksum (words (header821 0)) = 0x815E := by decide +kernel

theorem test_header_verifies : onesSum (words (header821 0x815E)) = 0xFFFF := by decide +kernel

/-! ## Section 2.5: classification and extraction -/

/-- Locator 2 of section 2.5.2. -/
def locator2 : Locator :=
  { valid := true, seqOffset := 2, seqWidth := 2, indicator := some { offset := 4, bit := 7, invert := false }
    panLengthOffset := 5, panOffset := 6, encoding := .ascii
    companion := some { lengthOffset := 25, dataOffset := 26 }, fill := 0x20 }

/-- Locator 3 of section 2.5.2. -/
def locator3 : Locator :=
  { valid := true, seqOffset := 8, seqWidth := 4, indicator := none, panLengthOffset := 12, panOffset := 13
    encoding := .packed, companion := none, fill := 0 }

/-- The rules of section 2.5.1. -/
def rules251 : Vector Rule 16 :=
  (((Vector.replicate 16 Rule.cold).set 1
    { valid := true, locator := 2, route := 0
      probes := [{ offset := 0, value := 0x50, mask := 0xFF }, { offset := 1, value := 0x01, mask := 0x0F }] }).set 2
    { valid := true, locator := 3, route := 1, probes := [{ offset := 0, value := 0x50, mask := 0xFF }] }).set 5
    { valid := true, locator := 2, route := 3, probes := [] }

/-- The digits of request a, 4927153860247138. -/
def panA : List Digit := [4, 9, 2, 7, 1, 5, 3, 8, 6, 0, 2, 4, 7, 1, 3, 8]

/-- Request a of section 2.5.2 (64 bytes). -/
def requestA : Bytes :=
  [0x50, 0x21, 0x01, 0x2C, 0x80, 0x10] ++ panA.map (fun d => BitVec.ofNat 8 (0x30 + d.val)) ++
    [0, 0, 0, 3, 0x5A, 0x31, 7] ++ List.replicate 35 0

/-- Request b of section 2.5.2 (40 bytes). -/
def requestB : Bytes :=
  [0x50, 0x22, 0, 0, 0, 0, 0, 0, 0, 0, 0x1F, 0x40, 0x0F, 0x37, 0x14, 0x49, 0x63, 0x53, 0x98, 0x43, 0x1F] ++
    List.replicate 19 0

/-- The card of request a. -/
def cardA : Card :=
  { digits := panA, encoding := .ascii, panOffset := 6, companion := [0x5A, 0x31, 7], companionOffset := 26 }

/-- Request a's sequence. -/
def seqA : Sequence := { width := 2, value := 300 }

theorem test_classify :
    [requestA, requestB, [0x41, 1], []].map (fun m => (classify rules251 m).map (·.route)) =
      [some 0, some 1, some 3, some 3] := by decide +kernel

theorem test_extract_a : extract locator2 requestA = .accepted seqA (some cardA) := by decide +kernel

theorem test_extract_b :
    extract locator3 requestB = .accepted { width := 4, value := 8000 } (some
      { digits := [3, 7, 1, 4, 4, 9, 6, 3, 5, 3, 9, 8, 4, 3, 1], encoding := .packed, panOffset := 13
        companion := [], companionOffset := 0 }) := by decide +kernel

/-- Variants a1 to a8 of section 2.5.2. -/
theorem test_extract_variants :
    [requestA.take 3, requestA.set 4 0, requestA.set 5 0x0C, requestA.take 20, requestA.set 13 0x2D,
        requestA.set 21 0x39, requestA.set 25 0x31, requestA.take 27].map (extract locator2) =
      [.refused .fieldRange none, .accepted seqA none, .refused .badLength (some seqA),
        .refused .fieldRange (some seqA), .refused .badDigit (some seqA), .refused .checkDigit (some seqA),
        .refused .companionLong (some seqA), .refused .fieldRange (some seqA)] := by decide +kernel

/-! ## Sections 7.6 and 6.7: surrogates, and the content of one wrap -/

theorem test_surrogate_without_adjustment :
    surrogateOf (candidateDigits panA (surrogateKeystream panA [0x9C, 0x21, 0x07, 0xF3, 0x58, 0xBE])) =
      [4, 9, 2, 7, 1, 5, 9, 1, 3, 3, 0, 4, 7, 1, 3, 8] := by decide +kernel

theorem test_surrogate_with_adjustment :
    surrogateOf (candidateDigits panA (surrogateKeystream panA [0x9C, 0x21, 0x07, 0xF3, 0x58, 0x2A])) =
      [4, 9, 2, 7, 1, 5, 9, 1, 3, 3, 0, 7, 7, 1, 3, 8] := by decide +kernel

/-- Section 7.6.3, with the bytes written back. -/
theorem test_surrogate_packed :
    let ds : List Digit := [3, 7, 1, 4, 4, 9, 6, 3, 5, 3, 9, 8, 4, 3, 1]
    encodeDigits .packed
        (surrogateOf (candidateDigits ds (surrogateKeystream ds [0x3F, 0x8E, 0x05, 0xD1, 0x64]))) =
      [0x37, 0x14, 0x49, 0x95, 0x02, 0x98, 0x43, 0x1F] := by decide +kernel

theorem test_surrogate_block :
    surrogateBlock panA = 0x04090207010507010308100000000000 := by decide +kernel

/-- The job target of section 6.7. -/
def target67 : JobTarget :=
  { till := 4, slot := 3, bank := .A, generation := 12, counter := 8407, tillNumber := 215, frame := 0 }

/-- The capture of section 6.7. -/
def captureA : Capture :=
  { till := 4, route := 0, seq := seqA, card := some cardA, fill := 0x20, sourcePort := 4000 }

theorem test_derivation_block :
    derivationBlock 1 target67 = 0x01030C0000D7000020D7000000000000 := by decide +kernel

theorem test_counter_block :
    counterBlock target67 0 = 0x0300000000D7000020D7000000000000 := by decide +kernel

theorem test_card_plaintext :
    cardPlaintext captureA = [0x49, 0x27, 0x15, 0x38, 0x60, 0x24, 0x71, 0x38, 0x5A, 0x31, 0x07] := by
  decide +kernel

theorem test_wrapped_payload_length :
    (wrappedPayload captureA (wrapValues 1 2 target67 captureA requestA) requestA).length = 99 := by
  decide +kernel

/-! ## Section 8.9.1: the guard on four bridged frames; section 11.5: payloads -/

/-- An untagged frame whose data is ASCII text. -/
def textFrame (text : String) : Bytes :=
  List.replicate 12 2 ++ [8, 0] ++ text.toList.map (fun c => BitVec.ofNat 8 c.toNat)

theorem test_guard_on_four_frames :
    ["ID=4927153860247138;", "ID=74927153860247138;", "REF=49271538602471380012;",
        "T=492715386024;X=7138"].map (fun t => guardPasses (textFrame t)) = [false, true, true, true] := by
  decide +kernel

theorem test_standin_payloads :
    standInPayload .badDigit (some seqA) = [0xF3, 0x5E, 2, 1, 0x2C, 4] ∧
      standInPayload .fieldRange none = [0xF3, 0x5E, 0, 7] := by decide +kernel

theorem test_result_entry : resultEntry 0x10 .pairBroken [] = [0x10, 0x0A, 0, 0] := by decide +kernel

/-! ## A part in use -/

/-- The station address of the part. -/
def station : Mac := 0x020000000001

/-- The part's settings. -/
def settings : Settings :=
  { Settings.cold with
    serviceAddress := 0xAC100302, servicePort := 7700, lineAddress := 0x0A000001, replyPort := 7701
    noticePort := 7702, noticeDestination := some 0, bridgeMode := .guarded }

/-- The till of section 6.7. -/
def till : TillEntry :=
  { TillEntry.cold with valid := true, number := 215, ip := 0x0A140005, mac := 0x020000000099, slot := 3 }

/-- The destination of route 0. -/
def site : Destination := { ip := 0x0A000009, port := 9000, mac := 0x020000000077 }

/-- Bank A of slot 3, before section 6.7's admission. -/
def bank67 : KeyBank :=
  { KeyBank.cleared with state := .live, generation := 12, ceilingCode := 4, counter := 8406, wrapKey := 1, surKey := 2 }

/-- A port whose link is UP. -/
def upPort : PortState := { PortState.cold with link := .up }

/-- The bytes a sender puts on the wire that a transmitter keeps busy. -/
def busyWith (k : TxKind) : Option Sending := some { kind := k, frame := [], wire := [] }

/-- A part in use: both links UP, the rules and locators of section 2.5, the till of section 6.7 at entry 4. -/
def demo : State :=
  State.evalLevels
    { State.reset with
      factory := { serial := 0x0102030405060708, station := station, mtk := 3, ktk := 4 }
      mgmtKeys := { mtk := 3, ktk := 4, lmk := some 5 }
      settings := settings, portT := upPort, portL := upPort, rules := rules251
      locators := ((Vector.replicate 8 Locator.cold).set 2 locator2).set 3 locator3
      tills := (Vector.replicate 128 TillEntry.cold).set 4 till
      slots := (Vector.replicate 16 KeySlot.cleared).set 3 { KeySlot.cleared with a := bank67 }
      destinations := (Vector.replicate 4 none).set 0 (some site) }

/-- The part with an exchange at entry 4. -/
def withExchange (x : Exchange) : State :=
  { demo with tills := demo.tills.set 4 { till with exchange := some x } }

/-- An exchange with request a's sequence, awaiting its reply. -/
def awaitingA : Exchange :=
  { phase := .awaiting, seq := seqA, sourcePort := 4000, slot := 3, bank := .A, generation := 12, counter := 8406
    deadline := 0, expiredWhileVerifying := false, wrapJob := none, verifyJob := none }

/-- The same exchange while its reply is verified by job 9. -/
def verifyingA : Exchange := { awaitingA with phase := .verifying, verifyJob := some 9 }

/-- The same exchange while its WRAP job is job 9. -/
def admittedA : Exchange := { awaitingA with phase := .admitted, wrapJob := some 9 }

/-- A datagram to the part on port T, from a source address. -/
def toPartT (src : Ip) (port : UdpPort) (m : Bytes) : Bytes :=
  buildUdp
    { dstMac := station, srcMac := till.mac, tagControl := none, srcIp := src, dstIp := settings.serviceAddress
      srcPort := 4000, dstPort := port, ident := 7 } m

/-- A datagram to the part on port L. -/
def toPartL (port : UdpPort) (m : Bytes) : Bytes :=
  buildUdp
    { dstMac := station, srcMac := site.mac, tagControl := none, srcIp := site.ip, dstIp := settings.lineAddress
      srcPort := 9000, dstPort := port, ident := 7 } m

/-- Request a in a frame of the till. -/
def frameA : Bytes := toPartT till.ip settings.servicePort requestA

/-- A reply payload that names `awaitingA`. -/
def replyA : Bytes :=
  List.replicate 10 0x41 ++ [0xF3, 0x5D, 1, 0, 3, 12, 0, 215] ++ beBytes 4 8406 ++ List.replicate 12 0

/-- A reply in a frame of the site. -/
def frameReply (m : Bytes) : Bytes := toPartL settings.replyPort m

/-- The management message of one READ_SETTINGS item, with its tag left 0. -/
def message1 : Bytes :=
  [0xF3, 0x5F, 1] ++ beBytes 8 0x0102030405060708 ++ beBytes 4 1 ++ [1, 1, 0, 0] ++ List.replicate 8 0

/-- A management message of the items given, with its tag left 0. -/
def messageOf (items : List (Byte × Bytes)) : Bytes :=
  [0xF3, 0x5F, 1] ++ beBytes 8 0x0102030405060708 ++ beBytes 4 1 ++ [BitVec.ofNat 8 items.length] ++
    (items.flatMap fun i => [i.1] ++ beBytes 2 i.2.length ++ i.2) ++ List.replicate 8 0

/-- The context of a message in hand. -/
def context (o : Origin) : Context :=
  { origin := o, port := .L, senderMac := site.mac, senderIp := site.ip, senderPort := 9000
    answerIp := settings.lineAddress, answerPort := 7710, tagControl := none, key := 3, sequence := 1, nextItem := 1
    pendingKeys := none, restartPending := false, replacedPorts := [], job := none }

/-- The part with a message of one item in hand. -/
def inHand (o : Origin) (k : Byte) (b : Bytes) : State :=
  { demo with
    mgu := .executing, message := messageOf [(k, b)], response := (messageOf [(k, b)]).take 16
    context := some (context o) }

theorem test_demo_keeps_the_key_laws : demo.PairLaw ∧ demo.RationLaw ∧ demo.MapLaw ∧ demo.SettingsLaw := by
  decide +kernel

theorem test_demo_keeps_the_table_laws : demo.EntryLaw ∧ demo.RuleLaw ∧ demo.ExchangeLaw := by decide +kernel

theorem test_demo_has_one_till : ∀ i : Fin 128, demo.tills[i].valid = true → i = 4 := by decide +kernel

theorem test_demo_keeps_the_till_law : demo.TillLaw := fun i j hij hi hj =>
  absurd ((test_demo_has_one_till i hi).trans (test_demo_has_one_till j hj).symm) hij

theorem test_demo_keeps_the_work_laws :
    demo.QueueLaw ∧ demo.PortLaw ∧ demo.StoreLaw ∧ demo.LineClear ∧ demo.LevelLaw := by decide +kernel

theorem test_demo_keeps_the_buffer_law : demo.BufferLaw := by
  refine ⟨?_, by decide +kernel, ?_, by decide +kernel, by decide +kernel, by decide +kernel⟩
  · intro p; cases p <;> decide +kernel
  · intro p; cases p <;> decide +kernel

theorem test_demo_keeps_the_reference_law : demo.RefLaw := by
  refine ⟨?_, by decide +kernel⟩
  intro k b
  revert k
  cases b <;> decide +kernel

/-! ## Witnesses: one step, and rules of the whole machine -/

/-- The state with one command waiting. -/
def queued (c : Instr) (s : State) : State := { s with pending := [c] }

/-- The part in use with a running job on lane 0, the other lanes idle. -/
def withJob (s : State) (r : Running) : State := { s with lanes := (Vector.replicate 4 none).set 0 (some r) }

/-- The part with the message of one item from an origin, and its MGMT_TAG result at hand. -/
def authenticating (o : Origin) (pass : Bool) : State :=
  { withJob demo (.mgmtTag 0 3 pass) with mgu := .authenticating, message := message1, context := some (context o) }

/-- The part answering, with its response being sent on port L. -/
def answering (keys : Option MgmtKeys) (restart : Bool) : State :=
  { demo with
    mgu := .answering, message := message1, response := message1, responseFrame := toPartL 9000 message1
    portL := { upPort with sending := busyWith (.own .response) }
    context := some { context .remote with pendingKeys := keys, restartPending := restart } }

theorem witness_StepRunsFrontCommand : (queued .uptimeTick demo).pending = .uptimeTick :: [] := rfl

/-- R1: the wrap of the counter, and a start. -/
theorem witness_UptimeMovesByTickAndStarts :
    (next .uptimeTick { demo with uptime := 0xFFFFFFFF }).map (·.uptime) = some 0 ∧
      (next .powerOnReset { demo with uptime := 7 }).map (·.uptime) = some 0 ∧
      (next (.linkDown .T) { demo with uptime := 7 }).map (·.uptime) = some 7 := by decide +kernel

theorem witness_SequencesMoveByAcceptanceAndColdStart :
    (next .mgmtTagResult (authenticating .remote true)).map (fun t => (t.lastRemote, t.lastLocal)) = some (1, 0) ∧
      (next .mgmtTagResult (authenticating .store true)).map (fun t => (t.lastRemote, t.lastLocal)) = some (0, 1) ∧
      (next .mgmtTagResult { authenticating .remote true with lastRemote := 1 }).map (·.lastRemote) = some 1 ∧
      (next .powerOnReset { demo with lastRemote := 9, storeValid := false }).map (·.lastRemote) = some 0 ∧
      (next .powerOnReset { demo with lastRemote := 4294967295 }).map (·.lastRemote) = some 4294967295 := by
  decide +kernel

/-- Section 6.7: the admission assigns bank counter 8,407. -/
theorem witness_BankCountersRiseAtAdmissionOnly :
    (next (.frameReceived .T (wireImage frameA)) demo).map (fun t => (t.bank 3 .A).counter) = some 8407 := by
  decide +kernel

theorem witness_ManagementKeysChangeOnlyAt :
    (next .powerOnReset { demo with storeValid := false }).map (·.mgmtKeys.lmk) = some none ∧
      (next (.transmissionComplete .L) (answering (some { mtk := 8, ktk := 9, lmk := none }) false)).map (·.mgmtKeys) =
        some { mtk := 8, ktk := 9, lmk := none } := by decide +kernel

/-- A till item of the local origin at the floor: entry 127 with a local floor of 127. -/
theorem witness_LocalItemsLeaveCentralStateAlone :
    (next .clearTill { inHand .store 5 [127] with settings := { settings with localFloor := 127 } }).map
        (fun t => (t.response.drop 16, t.context.map (·.nextItem))) = some ([5, 0, 0, 0], some 2) := by
  decide +kernel

/-! ## Witnesses: the laws. Each is kept by the step shown, which answers a next state. -/

/-- A step of the part in use whose next state has a property. -/
def steps (c : Instr) (p : State → Bool) : Bool :=
  match step (queued c demo) with
  | .next t => p t
  | .fault _ | .refused _ => false

theorem witness_KeyBanksStayLegal :
    steps (.frameReceived .T (wireImage frameA)) (fun t =>
      decide (t.PairLaw ∧ t.RationLaw) && (t.bank 3 .A).refs == 2 && t.holders 3 .A == 2 &&
        (t.tills[4].exchange.bind (·.wrapJob)).isSome) = true := by decide +kernel

theorem witness_TillsStayDistinct : steps .uptimeTick (fun t => t.uptime == 1) = true := by decide +kernel

theorem witness_RuleAndMapLawsAreKept :
    steps .powerOnReset (fun t => decide (t.RuleLaw ∧ t.MapLaw ∧ t.SettingsLaw)) = true := by decide +kernel

theorem witness_TillEntriesAndExchangesStayFormed :
    steps (.frameReceived .T (wireImage frameA)) (fun t => decide (t.EntryLaw ∧ t.ExchangeLaw)) = true := by
  decide +kernel

theorem witness_QueueStaysWithinItsEntries :
    steps (.frameReceived .T (wireImage frameA)) (fun t => decide t.QueueLaw) = true := by decide +kernel

theorem witness_PortsStayServed : steps (.linkDown .L) (fun t => decide t.PortLaw) = true := by decide +kernel

theorem witness_FrameSlotsKeepOneHolder :
    steps (.frameReceived .T (wireImage frameA)) (fun t => decide t.StoreLaw) = true := by decide +kernel

theorem witness_LineStaysClearOfPassingRuns :
    steps (.frameReceived .T (wireImage (textFrame "ID=74927153860247138;"))) (fun t => decide t.LineClear) =
      true := by decide +kernel

theorem witness_QueueEntriesKeepTheirBuffers :
    steps (.frameReceived .T (wireImage (toPartT till.ip settings.servicePort (requestA.set 5 0x0C))))
      (fun t => t.portT.entries == [.standIn 0] && t.standIns[0].isSome && t.standIns[1].isNone) = true := by
  decide +kernel

theorem witness_LevelStatusesFollowConditions :
    steps (.linkDown .L) (fun t => decide t.LevelLaw && t.statusOf .lineDown) = true := by decide +kernel

/-! ## Witnesses: starts, the pins and the clock -/

theorem witness_ColdStartLeavesTheColdValues :
    (let s : State := { demo with storeValid := false }
     (s.storeValid, s.eraseLine)) = (false, false) := rfl

theorem witness_WarmStartLosesTheWorkingState : (demo.storeValid, demo.eraseLine) = (true, false) := rfl

/-- The part executing a LOAD_MGMT_KEYS item whose job is under way. -/
def unwrapping : State :=
  { withJob (inHand .remote 27 (List.replicate 58 0)) (.keyUnwrap 9 4 [] [] false) with
    context := some { context .remote with job := some 9 } }

/-- MGU in each state at the erase, and a start with the line asserted, the store valid or not. -/
theorem witness_EraseLineErases :
    demo.eraseLine = false ∧ demo.mgu = .idle ∧ (answering none false).mgu = .answering ∧
      ((inHand .remote 1 []).mgu = .executing ∧ (inHand .remote 1 []).context = some (context .remote) ∧
        (context .remote).job = none) ∧
      (authenticating .remote true).mgu = .authenticating ∧
      (unwrapping.mgu = .executing ∧ unwrapping.context.bind (·.job) = some 9 ∧
        unwrapping.itemAt = some { kind := 27, body := List.replicate 58 0 }) ∧
      (let s : State := { answering none false with mgu := .tagging }
       s.mgu = .tagging ∧ s.context.isSome = true) ∧
      (let s : State := { demo with eraseLine := true }
       s.eraseLine = true ∧ s.storeValid = true) ∧
      (let s : State := { demo with eraseLine := true, storeValid := false }
       s.eraseLine = true ∧ s.storeValid = false) := by decide +kernel

theorem witness_PinsAndTheTick : ({ demo with eraseLine := true } : State).eraseLine = true := rfl

theorem witness_ExpiryClosesAsLostOrIsNoted :
    ((withExchange awaitingA).tills[4].exchange = some awaitingA ∧ awaitingA.deadline = 0 ∧
        awaitingA.phase ≠ .verifying) ∧
      ((withExchange verifyingA).tills[4].exchange = some verifyingA ∧ verifyingA.deadline = 0 ∧
        verifyingA.phase = .verifying) := by decide +kernel

/-! ## Witnesses: operations that commands share -/

/-- The gains at the boundary: the one that reaches the maximum, and the one at it. -/
theorem witness_CountersGainAndSaturate :
    ([4294967293, 4294967294, 4294967295].map fun n =>
        let t := ({ demo with counters := demo.counters.set 24 n } : State).bump .guardBlocks
        (t.counterOf .guardBlocks, t.statusOf .counterSaturated)) =
      [(4294967294, false), (4294967295, true), (4294967295, false)] := by decide +kernel

/-- A job of an exchange, waiting in the queue with frame slot 0. -/
def waitingJob : Job := { id := 9, work := .wrap target67 captureA site }

/-- A management job waiting in MGU. -/
def mgmtJob : Job := { id := 10, work := .mgmtTag 3 }

/-- The part with its lanes busy and `n` jobs waiting. -/
def busy (n : Nat) : State :=
  { demo with
    lanes := Vector.replicate 4 (some (.mgmtTag 1 3 true))
    waiting := List.replicate n { id := 2, work := .mgmtTag 3 } }

/-- A close without a waiting job, with one, and with one whose entry goes to MGU's job. -/
theorem witness_ClosingReleasesTheHoldings :
    ((withExchange awaitingA).tills[4].exchange = some awaitingA ∧ (withExchange awaitingA).waiting = [] ∧
        awaitingA.wrapJob = none) ∧
      (let s : State := { withExchange admittedA with waiting := [waitingJob] }
       s.tills[4].exchange = some admittedA ∧ (s.waiting.map (·.id)).Nodup ∧ admittedA.verifyJob = none ∧
         waitingJob ∈ s.waiting ∧ admittedA.wrapJob = some waitingJob.id ∧ waitingJob.work.frame = some 0 ∧
         s.mgmtWaiting = none) ∧
      (let s : State := { withExchange admittedA with waiting := [waitingJob], mgmtWaiting := some mgmtJob }
       s.mgmtWaiting = some mgmtJob ∧ s.occupied - 1 < 64) := by decide +kernel

/-- The stand-in buffer with its last entry free, and with none. -/
theorem witness_StandInIsCountedBuiltAndOffered :
    (let s : State := { demo with standIns := Vector.replicate 16 (some []) }
     ∀ e : Fin 16, s.standIns[e].isSome = true) ∧
      (let s : State := { demo with standIns := (Vector.replicate 16 (some [])).set 15 none }
       s.standIns[15] = none ∧ (∀ j : Fin 16, j < 15 → s.standIns[j].isSome = true) ∧ s.portT.link = .up ∧
         s.portT.sending = none ∧ s.portT.ownQueue = [] ∧ s.portT.bridge = []) ∧
      (let s : State := { demo with portT := { upPort with sending := busyWith .bridged } }
       s.standIns[0] = none ∧ s.portT.link = .up ∧ s.portT.sending.isSome = true) ∧
      (State.reset.standIns[0] = none ∧ State.reset.portT.link = .down) := by decide +kernel

/-- Each case of the arbiter, with both sources waiting and either last served. -/
theorem witness_ArbiterTakesInTurn :
    (demo.portL.bridge = [] ∧ demo.portL.ownQueue = []) ∧
      (let s : State := { demo with portL := { upPort with bridge := [frameA], ownQueue := [.response], lastServed := .own } }
       (s.port .L).link = .up ∧ (s.port .L).sending = none ∧ (s.port .L).bridge = frameA :: [] ∧
         (s.port .L).lastServed = .own) ∧
      (let s : State := { demo with portL := { upPort with bridge := [frameA], ownQueue := [.notice] } }
       (s.port .L).link = .up ∧ (s.port .L).sending = none ∧ (s.port .L).ownQueue = .notice :: [] ∧
         (s.port .L).lastServed = .bridge) := by decide +kernel

/-- A lane idle, every lane busy, and a lane completing with 60 jobs waiting and one more in MGU. -/
theorem witness_LanesTakeTheOldestJob :
    (demo.waiting = [] ∧ (withJob demo (.mgmtTag 1 3 true)).lanes[1] = none ∧
        (∀ k : Fin 4, k < 1 → (withJob demo (.mgmtTag 1 3 true)).lanes[k].isSome = true)) ∧
      (∀ l : Fin 4, (busy 0).lanes[l].isSome = true) ∧ ((busy 0).waiting = [] ∧ (busy 0).mgmtWaiting = none) ∧
      (let s : State := { busy 60 with mgmtWaiting := some mgmtJob }
       s.waiting = { id := 2, work := .mgmtTag 3 } :: List.replicate 59 { id := 2, work := .mgmtTag 3 } ∧
         s.mgmtWaiting = some mgmtJob ∧ s.occupied = 64 ∧
         ({ s with waiting := s.waiting.tail } : State).occupied < 64) := by decide +kernel

/-- A lane takes a WRAP job: its card lies within the message of its frame slot. -/
theorem witness_LanesTakeTheOldestJob_values :
    captureA.Within (udpPayload ({ demo with frames := demo.frames.set 0 frameA } : State).frames[target67.frame]) := by
  decide +kernel

/-- The rewritten message of request a: the surrogate at offset 6, the fill byte over bytes 26 to 28. -/
theorem test_rewritten_message :
    captureA.rewritten [4, 9, 2, 7, 1, 5, 9, 1, 3, 3, 0, 4, 7, 1, 3, 8] requestA =
      requestA.take 12 ++ [0x39, 0x31, 0x33, 0x33, 0x30, 0x34] ++ (requestA.drop 18).take 8 ++ [0x20, 0x20, 0x20] ++
        requestA.drop 29 := by decide +kernel

/-- The part with LINE_DOWN mapped to slot 23 and enabled, before and after its link goes DOWN. -/
def mapped : State :=
  { demo with eventMap := demo.eventMap.set 11 (some 23), enables := demo.enables.set 11 true }

theorem witness_NoticesAreAskedAndBuilt :
    (demo.noticeTarget = some site ∧ demo.attention = demo.evalLevels.attention ∧
        demo.slotLevels = demo.evalLevels.slotLevels) ∧
      (let s : State := { mapped with portL := PortState.cold }
       s.noticeTarget = some site ∧ mapped.attention ≠ s.evalLevels.attention ∧ s.noticeWaiting = none ∧
         s.portL.link = .down) ∧
      (let s : State := { mapped with eventMap := mapped.eventMap.set 3 (some 0), enables := mapped.enables.set 3 true
                                      status := mapped.status.set 3 true }
       s.noticeTarget = some site ∧ mapped.slotLevels ≠ s.evalLevels.slotLevels ∧ s.noticeWaiting = none ∧
         s.portL.link = .up ∧ s.portL.sending = none ∧ s.portL.ownQueue = [] ∧ s.portL.bridge = [] ∧
         guardPasses (s.evalLevels.noticeFrame site s.ident) = true) ∧
      (let s : State := { demo with portL := { upPort with sending := busyWith .bridged } }
       s.noticeTarget = some site ∧ s.portL.sending.isSome = true ∧ s.noticeWaiting = none) ∧
      (let s : State := { demo with noticeWaiting := some { ident := 3117, frame := [] } }
       s.noticeTarget = some site ∧ s.noticeWaiting = some { ident := 3117, frame := [] } ∧
         guardPasses (s.evalLevels.noticeFrame site 3117) = true) := by decide +kernel

/-- The part whose next notice carries 13 digits that pass the check: in its serial, its uptime and slots 20 and 21. -/
def digitNotice (waiting : Option WaitingNotice) (mapGuard : Bool) : State :=
  { demo with
    factory := { demo.factory with serial := 0x3439323731353338 }, uptime := 0x31303038
    status := (demo.status.set 0 true).set 1 true
    enables := Vector.replicate 18 true, noticeWaiting := waiting
    eventMap := ((demo.eventMap.set 0 (some 20)).set 1 (some 21)).set 3 (if mapGuard then some 16 else none)
    portL :=
      { upPort with
        sending := busyWith .bridged
        ownQueue := if waiting.isSome then [.notice] else [] } }

/-- A new and a rewritten notice that the guard blocks, with and without a slot level that this changes. -/
theorem witness_NoticesAreAskedAndBuilt_blocked :
    ∀ w ∈ [none, some { ident := 3117, frame := [] }], ∀ mapGuard ∈ [true, false],
      let s := digitNotice w mapGuard
      let b := (s.evalLevels.latch .guardBlock).bump .guardBlocks
      s.noticeTarget = some site ∧ s.noticeWaiting = w ∧ s.portL.link = .up ∧
        guardPasses (s.evalLevels.noticeFrame site (w.elim s.ident (·.ident))) = false ∧
        b.attention = s.evalLevels.attention ∧
        (mapGuard = true ↔ b.slotLevels ≠ s.evalLevels.slotLevels) := by decide +kernel

/-! ## Witnesses: commands at the ports -/

/-- The part with port L sending a bridged frame and a frame of each kind waiting there. -/
def fullLine : State :=
  { demo with
    portL :=
      { upPort with
        sending := busyWith .bridged, bridge := [frameA]
        ownQueue := [.wrapped 0, .notice, .arp 1]
        arp := (Vector.replicate 2 none).set 1 (some []) }
    freeSlots := demo.freeSlots.tail, noticeWaiting := some { ident := 1, frame := [] } }

theorem witness_LinkReports :
    (demo.port .T).link = .up ∧
      ((State.reset.port .L).link = .down ∧ (State.reset.port .L).ownQueue = [] ∧
        (State.reset.port .L).bridge = []) ∧
      ((fullLine.port .L).link = .up ∧ OwnEntry.response ∉ (fullLine.port .L).entries ∧
        fullLine.counters[Counter.bridgeDrops.idx] ≤ 4294967295) := by decide +kernel

/-- Each kind of frame in a transmission that completes. -/
theorem witness_TransmissionReleasesItsBuffer :
    ∀ k ∈ [TxKind.bridged, .own (.wrapped 63), .own (.forwarded 0), .own (.standIn 15), .own .notice, .own (.arp 1)],
      (let s : State := { demo with portL := { upPort with sending := busyWith k } }
       (s.port .L).sending = some { kind := k, frame := [], wire := [] }) ∧ k ≠ .own .response := by
  decide +kernel

theorem witness_ResponseEndsTheMessage :
    ∀ restart ∈ [true, false],
      (answering none restart).mgu = .answering ∧
        (answering none restart).context = some { context .remote with restartPending := restart } ∧
        ((answering none restart).port .L).sending = some { kind := .own .response, frame := [], wire := [] } ∧
        ((answering none restart).port .L).link = .up ∧
        ((answering none restart).port .L).entries.count .response = 1 := by decide +kernel

/-- An ARP request for an address, from a sender. -/
def arpRequest (own : Ip) (mac : Mac) (ip : Ip) : Bytes :=
  receivedFrame (wireImage
    (etherHeader broadcast mac none 0x0806 ++ [0, 1, 8, 0, 6, 4, 0, 1] ++ beBytes 6 mac.toNat ++
      beBytes 4 ip.toNat ++ beBytes 6 0 ++ beBytes 4 own.toNat))

/-- A frame of section 8.9.1 as a port holds it. -/
def textHeld (text : String) : Bytes := receivedFrame (wireImage (textFrame text))

/-- A frame dropped at the port, at 63 bytes, and frames dropped as MALFORMED: a bad header, a port no setting has,
and a reply with a trailer of another version. -/
theorem witness_FramesAreDropped :
    portAccepts (List.replicate 63 0) = false ∧
      (∀ f ∈ [frameA.set 14 0x55, toPartT till.ip 7 requestA],
        demo.Arrives .T (wireImage f) f ∧ demo.MalformedAt .T f) ∧
      (let f := frameReply (replyA.set 12 2)
       demo.Arrives .L (wireImage f) f ∧ demo.MalformedAt .L f) := by decide +kernel

/-- Bridged frames: CLOSED, a DOWN port, the guard, a full buffer, and one with room for the 32nd frame; and a
payment request outside the till VLAN. -/
theorem witness_FramesAreBridged :
    (let f := textHeld "ID=4927153860247138;"
     demo.Arrives .T (wireImage f) f ∧ demo.BridgedAt .T f ∧ guardPasses f = false ∧
       demo.settings.bridgeMode = .guarded ∧ (demo.port .L).link = .up) ∧
      (let f := textHeld "T=492715386024;X=7138"
       demo.Arrives .T (wireImage f) f ∧ demo.BridgedAt .T f ∧ guardPasses f = true ∧
         demo.Arrives .L (wireImage f) f ∧ demo.BridgedAt .L f) ∧
      (({ demo with settings := Settings.cold } : State).settings.bridgeMode = .closed) ∧
      (let s (n : Nat) : State :=
         { demo with portL := { upPort with bridge := List.replicate n [], sending := busyWith .bridged } }
       32 ≤ ((s 32).port .L).bridge.length ∧ ((s 31).port .L).bridge.length < 32) ∧
      (let s : State := { demo with settings := { settings with tillVlan := 4094 } }
       s.BridgedAt .T frameA) := by decide +kernel

/-- ARP requests: with both answer buffers occupied, with the second free, and an answer that the guard blocks. -/
theorem witness_FramesAreAnswered :
    (let f := arpRequest settings.serviceAddress till.mac till.ip
     let s (v : Vector (Option Bytes) 2) : State := { demo with portT := { upPort with arp := v } }
     demo.Arrives .T (wireImage f) f ∧ isArpRequest station settings.serviceAddress f = true ∧
       (∀ b : Fin 2, ((s (Vector.replicate 2 (some []))).port .T).arp[b].isSome = true) ∧
       (let v : Vector (Option Bytes) 2 := (Vector.replicate 2 none).set 0 (some [])
        ((s v).port .T).arp[1] = none ∧ ∀ j : Fin 2, j < 1 → ((s v).port .T).arp[j].isSome = true)) ∧
      (let s : State := { demo with settings := { settings with lineAddress := 0x30303030 } }
       let f := arpRequest 0x30303030 0x303030303030 0x30303030
       s.Arrives .L (wireImage f) f ∧ isArpRequest station 0x30303030 f = true ∧
         guardPasses (arpAnswer station 0x30303030 f) = false) := by decide +kernel

theorem witness_UnknownAndUnclassifiedRequestsAreDropped :
    (let f := toPartT 0x0A140006 settings.servicePort requestA
     demo.Arrives .T (wireImage f) f ∧ demo.PaymentAt f ∧
       ∀ j : Fin 128, demo.tills[j].valid = true → demo.tills[j].ip ≠ ipSource f) ∧
      (let s : State := { demo with rules := demo.rules.set 5 Rule.cold }
       let f := toPartT till.ip settings.servicePort (requestA.set 0 0x41)
       s.Arrives .T (wireImage f) f ∧ s.PaymentAt f ∧ s.TillFound f 4 ∧
         ∀ r : Fin 16, ¬ s.rules[r].Takes (udpPayload f)) := by decide +kernel

theorem test_request_a_arrives : demo.RequestAt (wireImage frameA) frameA 4 1 (.accepted captureA) := by
  decide +kernel

theorem witness_DuplicateRequestsAreDropped :
    (withExchange awaitingA).RequestAt (wireImage frameA) frameA 4 1 (.accepted captureA) ∧
      (withExchange awaitingA).tills[4].exchange = some awaitingA ∧
      (RequestCapture.accepted captureA).seq = some awaitingA.seq := by decide +kernel

/-- The part with one use of the bank, one frame slot and one entry of the queue left. -/
def lastUse : State :=
  { busy 59 with
    slots := demo.slots.set 3 { KeySlot.cleared with a := { bank67 with counter := 99999 } }, freeSlots := [63] }

theorem witness_AdmissionOpensTheExchange :
    lastUse.RequestAt (wireImage frameA) frameA 4 1 (.accepted captureA) ∧ lastUse.tills[4].exchange = none ∧
      (let a := lastUse.atStep3 4
       a.destinations[0] = some site ∧ (udpPayload frameA).length + 24 + plainLength captureA ≤ 1472 ∧
         a.slots[3].Legal ∧ (a.bank 3 .A).state = .live ∧
         (a.bank 3 .A).counter + 1 = ceiling (a.bank 3 .A).ceilingCode ∧ a.freeSlots = 63 :: [] ∧
         a.occupied = 63) := by decide +kernel

/-- The longest request that is wrapped, and one that supersedes. -/
theorem witness_AdmissionOpensTheExchange_long_and_superseding :
    (let f := toPartT till.ip settings.servicePort (requestA ++ List.replicate 1373 0)
     (udpPayload f).length + 24 + plainLength captureA = 1472 ∧
       demo.RequestAt (wireImage f) f 4 1 (.accepted captureA)) ∧
      (let x : State := withExchange { awaitingA with seq := { width := 2, value := 299 } }
       x.RequestAt (wireImage frameA) frameA 4 1 (.accepted captureA) ∧
         captureA.seq ≠ { width := 2, value := 299 } ∧ (x.atStep3 4).destinations[0] = some site ∧
         ((x.atStep3 4).bank 3 .A).state = .live ∧ (x.atStep3 4).freeSlots = List.finRange 64) :=
  ⟨by decide +kernel, by decide +kernel⟩

/-- A request refused by its capture, for want of a route, for its size and for its key. -/
theorem witness_AdmissionRefusesWithAStandIn :
    (let f := toPartT till.ip settings.servicePort (requestA.set 5 0x0C)
     demo.RequestAt (wireImage f) f 4 1 (.refused 4 0 .badLength (some seqA) 4000) ∧
       (demo.atStep3 4).slots[3].Legal) ∧
      (({ demo with destinations := Vector.replicate 4 none } : State).RefusesFor 4 64 (.accepted captureA) .noRoute) ∧
      demo.RefusesFor 4 1438 (.accepted captureA) .oversize ∧
      (({ demo with slots := Vector.replicate 16 KeySlot.cleared } : State).RefusesFor 4 1437 (.accepted captureA)
        .noKey) ∧
      (({ demo with
            slots := demo.slots.set 3 { KeySlot.cleared with a := { bank67 with counter := 100000 } } } :
          State).RefusesFor 4 64 (.accepted captureA) .keySpent) ∧
      (({ demo with freeSlots := [] } : State).RefusesFor 4 64 (.accepted captureA) .busy) ∧
      (busy 60).RefusesFor 4 64 (.accepted captureA) .busy := by
  refine ⟨by decide +kernel, ?_, ?_, ?_, ?_, ?_, ?_⟩
  · exact .inl (by decide +kernel)
  · exact .inr ⟨by decide +kernel, .inl (by decide +kernel)⟩
  · exact .inr ⟨by decide +kernel, .inr ⟨by decide +kernel, .inl (by decide +kernel)⟩⟩
  · exact .inr ⟨by decide +kernel, .inr ⟨by decide +kernel, .inr ⟨.A, by decide +kernel, .inl (by decide +kernel)⟩⟩⟩
  · exact .inr ⟨by decide +kernel, .inr ⟨by decide +kernel, .inr ⟨.A, by decide +kernel, .inr (by decide +kernel)⟩⟩⟩
  · exact .inr ⟨by decide +kernel, .inr ⟨by decide +kernel, .inr ⟨.A, by decide +kernel, .inr (by decide +kernel)⟩⟩⟩

/-- A reply for each row of section 5.4: no such till, no exchange, ADMITTED, another counter, VERIFYING, no frame
slot, and accepted with the last entry of the queue. -/
theorem witness_RepliesAreMatchedWithTheRecord :
    (let f := frameReply (replyA.set 17 216)
     demo.Arrives .L (wireImage f) f ∧ demo.ReplyAt f ∧ replyFormOk (udpPayload f) = true ∧
       ∀ j : Fin 128, demo.tills[j].valid = true →
         demo.tills[j].number ≠ fieldNat (replyTrailer (udpPayload f)) 6 2) ∧
      (demo.ReplyFor (wireImage (frameReply replyA)) (frameReply replyA) 4 ∧ demo.tills[4].exchange = none) ∧
      (∀ x ∈ [admittedA, verifyingA, awaitingA, { awaitingA with counter := 1 }],
        (withExchange x).ReplyFor (wireImage (frameReply replyA)) (frameReply replyA) 4) ∧
      (let trailer := replyA.drop 10
       fieldNat trailer 4 1 = awaitingA.slot.val ∧ byteAt trailer 5 = awaitingA.generation ∧
         fieldNat trailer 8 4 = awaitingA.counter) ∧
      (busy 59).occupied < 64 ∧ 64 ≤ (busy 60).occupied := by decide +kernel

/-- Management messages: outside IDLE, malformed, from port T without an LMK, and one taken from either port. -/
theorem witness_ManagementMessagesAreTakenOrDropped :
    (let f := toPartL 7710 message1
     demo.Arrives .L (wireImage f) f ∧ demo.ManagementAt .L f ∧ demo.mgu = .idle ∧
       messageFormOk demo.factory.serial (udpPayload f) = true ∧ (answering none false).mgu ≠ .idle) ∧
      (let f := toPartL 7710 (message1.set 2 2)
       demo.Arrives .L (wireImage f) f ∧ demo.ManagementAt .L f ∧
         messageFormOk demo.factory.serial (udpPayload f) = false) ∧
      (let f := toPartT till.ip 7710 message1
       demo.Arrives .T (wireImage f) f ∧ demo.ManagementAt .T f ∧ demo.bootstrap .T f = false ∧
         demo.mgmtKeys.lmk = some 5 ∧
         ({ demo with mgmtKeys := demo.factory.keys } : State).mgmtKeys.lmk = none) := by decide +kernel

/-- The part executing a remote message whose WRITE_SETTINGS has replaced the management port 7710. -/
def replacing (line : Ip) : State :=
  { inHand .remote 1 [] with
    settings := { settings with managementPort := 7711, lineAddress := line }
    context := some { context .remote with replacedPorts := [7710] } }

/-- The last row of R188 on port L, addressed to the line address and under bootstrap. -/
theorem witness_ManagementMessagesAreTakenOrDropped_replaced :
    ((replacing settings.lineAddress).port .L).link = .up ∧ ((replacing 0).port .L).link = .up ∧
      demo.Arrives .L (wireImage (toPartL 7710 message1)) (toPartL 7710 message1) ∧
      (replacing settings.lineAddress).replacedAt .L (toPartL 7710 message1) = true ∧
      (replacing 0).replacedAt .L (toPartL 7710 message1) = true := by decide +kernel

/-- The last row of R188: another origin's message must match the new port. -/
theorem test_other_origin_must_match_the_new_port :
    (replacing settings.lineAddress).MalformedAt .T (toPartT till.ip 7710 message1) ∧
      (replacing settings.lineAddress).ManagementAt .T (toPartT till.ip 7711 message1) := by
  decide +kernel

/-- R182, R188: the item itself leaves the replaced port in the context, and the next arrival to it is busy. -/
theorem test_replaced_port_is_busy :
    (next .writeSettings (inHand .remote 2 (settingsBytes { settings with managementPort := 7711 }))).map
        (fun t => t.context.map (·.replacedPorts)) = some (some [7710]) ∧
      (next (.frameReceived .L (wireImage (toPartL 7710 message1))) (replacing settings.lineAddress)).map
        (fun t => (t.counterOf .mgmtBusy, t.counterOf .malformed, t.statusOf .malformed)) = some (1, 0, false) := by
  decide +kernel

/-! ## Witnesses: commands at the cipher lanes -/

/-- A WRAP job's values with a given trailer header; they stand for any result. -/
def wrapResult (header : Bytes) : WrapValues :=
  { encKey := 0, tagKey := 0, surrogate := none, cipherText := [], header := header, tag := [0] }

/-- The part with job 9, an admitted exchange's WRAP job, running for a request of one byte. -/
def wrapping (header : Bytes) : State :=
  { withJob (withExchange admittedA) (.wrap 9 target67 { captureA with card := none } site (wrapResult header)) with
    frames := demo.frames.set 0 (toPartT till.ip settings.servicePort [1]), freeSlots := demo.freeSlots.tail }

/-- The frame that `wrapping` sends. -/
def wrappedOf (header : Bytes) : Bytes :=
  (wrapping header).wrappedFrame target67 { captureA with card := none } site (wrapResult header)

/-- The current job's result passing the guard, blocked by it, and at a DOWN port. -/
theorem witness_WrapCompletionSendsTheRequest :
    ((wrapping [0]).lanes[0] = some (.wrap 9 target67 { captureA with card := none } site (wrapResult [0])) ∧
        (wrapping [0]).tills[4].exchange = some admittedA ∧ admittedA.wrapJob = some 9 ∧
        (wrapping [0]).portL.link = .up ∧ guardPasses (wrappedOf [0]) = true) ∧
      guardPasses (wrappedOf (List.replicate 13 0x30)) = false ∧
      ({ wrapping [0] with portL := PortState.cold } : State).portL.link = .down := by decide +kernel

/-- The part with job 9, the VERIFY job of an exchange, running. -/
def verifying (x : Exchange) (pass : Bool) : State :=
  { withJob (withExchange x) (.verify 9 target67 [] 10 { encKey := 0, tagKey := 0, pass := pass }) with
    frames := demo.frames.set 0 (frameReply replyA), freeSlots := demo.freeSlots.tail }

theorem witness_VerifyCompletionForwardsOrFails :
    (∀ pass ∈ [true, false], ∀ x ∈ [verifyingA, { verifyingA with expiredWhileVerifying := true }],
        (verifying x pass).lanes[0] =
            some (.verify 9 target67 [] 10 { encKey := 0, tagKey := 0, pass := pass }) ∧
          (verifying x pass).tills[4].exchange = some x ∧ x.verifyJob = some 9 ∧
          (verifying x pass).portT.link = .up) ∧
      ({ verifying verifyingA true with portT := PortState.cold } : State).portT.link = .down := by
  decide +kernel

/-- A job whose exchange is closed, and one whose till has another exchange open. -/
theorem witness_DetachedJobsAreDiscarded :
    (let s := { wrapping [0] with tills := demo.tills }
     s.lanes[0] = some (.wrap 9 target67 { captureA with card := none } site (wrapResult [0])) ∧
       s.tills[4].exchange = none) ∧
      (let s := verifying { verifyingA with verifyJob := some 10 } true
       s.lanes[0] = some (.verify 9 target67 [] 10 { encKey := 0, tagKey := 0, pass := true }) ∧
         s.tills[4].exchange = some { verifyingA with verifyJob := some 10 }) := by decide +kernel

theorem witness_TagResultAcceptsOrRejects :
    (∀ o ∈ [Origin.remote, .store], ∀ pass ∈ [true, false],
      (authenticating o pass).lanes[0] = some (.mgmtTag 0 3 pass) ∧
        (∀ j : Fin 4, j ≠ 0 → (authenticating o pass).lanes[j] = none) ∧
        (authenticating o pass).mgu = .authenticating ∧ (authenticating o pass).context = some (context o)) ∧
      fieldNat message1 11 4 = 1 ∧ (authenticating .remote true).lastRemote < 1 ∧
      1 ≤ ({ authenticating .remote true with lastRemote := 1 } : State).lastRemote := by decide +kernel

/-- The part with a KEY_UNWRAP result at hand for an item of kind 17 or 27, and a load state. -/
def unwrapped (kind : Byte) (load : LoadState) (slot : KeySlot) (given : List (Key × CheckValue))
    (keys : List Key) (pass : Bool) : State :=
  { withJob (inHand .remote kind []) (.keyUnwrap 9 4 given keys pass) with
    context := some { context .remote with job := some 9 }, load := load, slots := demo.slots.set 3 slot }

/-- A stage committed to an EMPTY bank A, to bank B beside a LIVE one and over a STAGED one; and the other
results of both items. -/
theorem witness_UnwrapResultCommitsOrFails :
    (∀ slot ∈ [KeySlot.cleared, { KeySlot.cleared with a := bank67 },
        { KeySlot.cleared with b := { bank67 with state := .staged, counter := 0 } }],
      ∀ pass ∈ [true, false],
        let s := unwrapped 17 (.unwrapping 3 13 7) slot [(1, 2), (3, 4)] [5, 6] pass
        s.lanes[0] = some (.keyUnwrap 9 4 [(1, 2), (3, 4)] [5, 6] pass) ∧
          (∀ j : Fin 4, j ≠ 0 → s.lanes[j] = none) ∧ s.context.isSome = true ∧
          s.itemAt = some { kind := 17, body := [] } ∧ s.load = .unwrapping 3 13 7 ∧ s.slots[3].Legal) ∧
      (∀ keys ∈ [[5, 6], [5, 6, 7]],
        let s := unwrapped 27 .none KeySlot.cleared [] keys true
        s.lanes[0] = some (.keyUnwrap 9 4 [] keys true) ∧ (∀ j : Fin 4, j ≠ 0 → s.lanes[j] = none) ∧
          s.context.isSome = true ∧ s.itemAt = some { kind := 27, body := [] } ∧ s.load = .none) ∧
      (unwrapped 27 .none KeySlot.cleared [] [] false).load = .none := by decide +kernel

/-- The part tagging its response, from a port. -/
def tagging (p : PortId) (restart : Bool) (line : Ip) : State :=
  { withJob demo (.responseTag 9 3 (List.replicate 8 0)) with
    mgu := .tagging, message := message1, response := message1.take 16
    context := some { context .remote with port := p, restartPending := restart, job := some 9, answerIp := line } }

theorem witness_ResponseIsTaggedAndSent :
    (let s : State := { inHand .remote 1 [] with context := some { context .remote with nextItem := 2 } }
     s.mgu = .executing ∧ s.context = some { context .remote with nextItem := 2 } ∧ itemCount s.message < 2) ∧
      (∀ p ∈ [PortId.T, .L], ∀ restart ∈ [true, false],
        let s := tagging p restart 1
        s.lanes[0] = some (.responseTag 9 3 (List.replicate 8 0)) ∧
          (∀ j : Fin 4, j ≠ 0 → s.lanes[j] = none) ∧ s.mgu = .tagging ∧ s.context.isSome = true ∧
          (s.port p).link = .up ∧
          guardPasses (s.buildResponse { context .remote with answerIp := 1 } (s.response ++ List.replicate 8 0)) =
            true) ∧
      ({ tagging .L true 1 with portL := PortState.cold } : State).portL.link = .down ∧
      guardPasses (demo.buildResponse (context .remote) (List.replicate 13 0x30)) = false := by decide +kernel

/-! ## Witnesses: item commands. Each body stands at a boundary of its item's checks. -/

theorem test_item_in_hand : (inHand .remote 1 []).InHand (context .remote) { kind := 1, body := [] } := by
  decide +kernel

/-- An item of one kind and body is in hand from the remote origin. -/
def hasItem (s : State) (k : Byte) (b : Bytes) : Bool :=
  decide (s.RemoteItem (context .remote) { kind := k, body := b } k.toNat b)

/-- Items the local origin may not execute, an item of a wrong length, and kinds 0 and 30. -/
theorem witness_ItemsRefusedByPermissionOrForm :
    ((inHand .store 5 [127]).InHand (context .store) { kind := 5, body := [127] } ∧
        (Instr.clearTill, 5) ∈ itemKinds ∧ ¬ LocalMay 5 (inHand .store 5 [127]).settings.localFloor [127] ∧
        LocalMay 5 127 [127]) ∧
      ((inHand .remote 29 [0]).InHand (context .remote) { kind := 29, body := [0] } ∧ (Instr.erase, 29) ∈ itemKinds ∧
        bodyForm 29 [0] = some false) ∧
      (∀ k ∈ [(0 : Byte), 30], ∀ o ∈ [Origin.remote, .store],
        (inHand o k []).InHand (context o) { kind := k, body := [] } ∧ (k.toNat = 0 ∨ 29 < k.toNat)) := by
  decide +kernel

/-- Each read item at its last index and the first index out of range. -/
theorem witness_ReadItemsReturnTheState :
    (∀ k ∈ [(1 : Byte), 21, 25], hasItem (inHand .remote k []) k [] = true) ∧
      (∀ n ∈ [(127 : Byte), 128], hasItem (inHand .remote 3 [n]) 3 [n] = true) ∧
      (∀ k ∈ [(6 : Byte), 15], ∀ n ∈ [(15 : Byte), 16], hasItem (inHand .remote k [n]) k [n] = true) ∧
      (∀ n ∈ [(7 : Byte), 8], hasItem (inHand .remote 9 [n]) 9 [n] = true) ∧
      (∀ n ∈ [(3 : Byte), 4], hasItem (inHand .remote 12 [n]) 12 [n] = true) ∧
      (inHand .remote 1 []).Fits (context .remote) (settingsBytes settings) := by decide +kernel

/-- A response of 1436 bytes leaves no room for the 29 bytes of the settings entry and the tag. -/
theorem witness_ReadItemsReturnTheState_no_room :
    ¬ ({ inHand .remote 1 [] with response := List.replicate 1436 0 } : State).Fits (context .remote)
        (settingsBytes settings) := by
  have h : (settingsBytes settings).length = 25 := by decide +kernel
  simp only [State.Fits, List.length_replicate, h]
  decide +kernel

/-- Settings at the highest VLANs, and one above; destinations 3 and 4. -/
theorem witness_SettingsAndDestinationsAreWritten :
    (∀ v ∈ [4094, 4095],
      let b := settingsBytes { settings with tillVlan := v }
      hasItem (inHand .remote 2 b) 2 b = true ∧ b.length = 25 ∧ fieldNat b 17 2 = v ∧ byteAt b 21 = 1 ∧
        fieldNat b 19 2 ≤ 4094 ∧ byteAt b 16 = 0) ∧
      (∀ i ∈ [(3 : Byte), 4], hasItem (inHand .remote 13 (i :: List.replicate 12 0)) 13 (i :: List.replicate 12 0) ∧
        hasItem (inHand .remote 14 [i]) 14 [i] = true) := by decide +kernel

/-- A WRITE_TILL body. -/
def tillBody (i : Byte) (number : Nat) (ip : Nat) (slot : Byte) : Bytes :=
  [i] ++ beBytes 2 number ++ beBytes 4 ip ++ List.replicate 6 0 ++ [slot, 0]

/-- WRITE_TILL of the last index, the first out of range, till numbers 0, 4095 and 4096, key slots 15 and 16, an address
that is taken; and the local origin at the floor. -/
theorem witness_TillItemsCheckCloseAndWrite :
    (∀ b ∈ [tillBody 127 4095 1 15, tillBody 128 1 1 0, tillBody 127 0 1 0, tillBody 127 4096 1 0, tillBody 127 1 1 16,
        tillBody 127 1 0x0A140005 0],
      hasItem (inHand .remote 4 b) 4 b = true ∧ b.length = 15) ∧
      (demo.tills[4].valid = true ∧ demo.tills[4].ip = 0x0A140005) ∧
      (∀ i ∈ [(127 : Byte), 128], hasItem (inHand .remote 5 [i]) 5 [i] = true) ∧
      (let s : State := { inHand .store 5 [127] with settings := { settings with localFloor := 127 } }
       s.InHand (context .store) { kind := 5, body := [127] } ∧ s.settings.localFloor ≤ (byteAt [127] 0).toNat) := by
  decide +kernel

/-- Rules with a probe offset of 1023 and 1024, a valid one with an invalid locator, the last index and the first out of
range; a locator named by a rule, and one named by none. -/
theorem witness_RuleAndLocatorItemsReplaceTheEntry :
    (∀ b ∈ [[15, 1, 2, 3, 1, 3, 255, 0, 0], [15, 1, 2, 3, 1, 4, 0, 0, 0], [15, 1, 7, 3, 0], [16, 1, 2, 3, 0]],
      hasItem (inHand .remote 7 b) 7 b = true ∧ b.length = 5 + 4 * (byteAt b 4).toNat) ∧
      (demo.locators[2].valid = true ∧ demo.locators[7].valid = false) ∧
      (∀ i ∈ [(15 : Byte), 16], hasItem (inHand .remote 8 [i]) 8 [i] = true) ∧
      (∀ b ∈ [locatorBytes 2 Locator.cold, locatorBytes 7 Locator.cold, locatorBytes 7 { locator3 with seqOffset := 1023 },
          locatorBytes 7 { locator3 with seqOffset := 1024 }, 8 :: List.replicate 20 0],
        hasItem (inHand .remote 10 b) 10 b = true ∧ b.length = 21) ∧
      (demo.rules[1].valid = true ∧ demo.rules[1].locator = 2 ∧
        ∀ j : Fin 16, demo.rules[j].valid = true → demo.rules[j].locator ≠ 7) ∧
      (∀ i ∈ [(2 : Byte), 7, 8], hasItem (inHand .remote 11 [i]) 11 [i] = true) := by decide +kernel

/-- The part with STAGE_OPEN in hand and STAGE_KEYS after it. -/
def opening (b : Bytes) (next : Byte) : State :=
  { inHand .remote 16 b with message := messageOf [(16, b), (17, next :: List.replicate 38 0)] }

/-- Slot 3 LIVE + DRAINING, or LIVE with generation 12. -/
def slot3 (b : BankState) : KeySlot := { a := bank67, b := { bank67 with state := b, generation := 11, refs := 1 } }

/-- Each check of STAGE_OPEN as the first that fails, and all passed. -/
theorem witness_StageOpenChecksInOrder :
    (∀ b ∈ [[16, 1, 0], [3, 0, 0], [3, 1, 8], [3, 12, 7], [3, 13, 7]],
      hasItem (opening b 3) 16 b = true ∧ b.length = 3) ∧
      ((messageItems (opening [3, 13, 7] 3).message)[1]?.map (fun i => (i.kind, i.body.head?)) =
          some (17, some 3)) ∧
      ((messageItems (opening [3, 13, 7] 4).message)[1]?.map (fun i => (i.kind, i.body.head?)) =
          some (17, some 4)) ∧
      (demo.bank 3 .A).generation = 12 ∧ (demo.bank 3 .B).state = .empty ∧
      (let s : State := { opening [3, 13, 7] 3 with slots := demo.slots.set 3 (slot3 .draining) }
       (s.bank 3 .A).state = .live ∧ (s.bank 3 .B).state = .draining) := by decide +kernel

theorem witness_KeyItemsOfferTheirUnwrapJob :
    (let b : Bytes := 3 :: List.replicate 38 0
     let s : State := { inHand .remote 17 b with load := .opened 3 13 7 }
     hasItem s 17 b = true ∧ b.length = 39 ∧ s.load = .opened 3 13 7 ∧
       hasItem (inHand .remote 17 b) 17 b = true ∧ (inHand .remote 17 b).load = .none) ∧
      (let b : Bytes := 16 :: List.replicate 38 0
       hasItem (inHand .remote 17 b) 17 b = true) ∧
      (∀ n ∈ [(0 : Byte), 1],
        hasItem (inHand .remote 27 (n :: List.replicate 57 0)) 27 (n :: List.replicate 57 0) = true) := by
  decide +kernel

/-- SWITCH with a STAGED bank beside a LIVE one and with none, RETIRE with a LIVE bank alone, beside a DRAINING one and
with none. -/
theorem witness_SwitchAndRetireGiveUpTheLiveBank :
    (∀ k ∈ [(18 : Byte), 19], ∀ n ∈ [(3 : Byte), 15, 16], hasItem (inHand .remote k [n]) k [n] = true) ∧
      (let s : State := { inHand .remote 18 [3] with slots := demo.slots.set 3 (slot3 .staged) }
       hasItem s 18 [3] = true ∧ s.slots[3].Legal ∧ (s.bank 3 .B).state = .staged ∧ (s.bank 3 .A).state = .live) ∧
      (demo.slots[15].Legal ∧ (demo.bank 15 .A).state = .empty ∧ (demo.bank 15 .B).state = .empty) ∧
      (demo.slots[3].Legal ∧ (demo.bank 3 .A).state = .live ∧ (demo.bank 3 .B).state = .empty) ∧
      ((slot3 .draining).Legal ∧ (slot3 .draining).b.state = .draining) := by decide +kernel

theorem witness_DiscardStageEmptiesTheStagedBank :
    (let s : State := { inHand .remote 20 [3] with slots := demo.slots.set 3 (slot3 .staged) }
     hasItem s 20 [3] = true ∧ s.slots[3].Legal ∧ (s.bank 3 .B).state = .staged) ∧
      (hasItem (inHand .remote 20 [15]) 20 [15] = true ∧ demo.slots[15].Legal ∧
        (demo.bank 15 .A).state ≠ .staged ∧ (demo.bank 15 .B).state ≠ .staged) ∧
      hasItem (inHand .remote 20 [16]) 20 [16] = true := by decide +kernel

/-- Maps with slot 23 and 24, and with a slot given twice. -/
theorem witness_EventAndCounterItems :
    (∀ k ∈ [(23 : Byte), 24], hasItem (inHand .remote k [3, 255, 255]) k [3, 255, 255] = true) ∧
      (∀ b ∈ [23 :: List.replicate 17 0xFF, 24 :: List.replicate 17 0xFF, 23 :: 23 :: List.replicate 16 0xFF],
        hasItem (inHand .remote 22 b) 22 b = true ∧ b.length = 18) ∧
      hasItem (inHand .remote 26 []) 26 [] = true := by decide +kernel

theorem witness_RestartAndEraseItems :
    hasItem (inHand .remote 28 []) 28 [] = true ∧ hasItem (inHand .remote 29 []) 29 [] = true ∧
      (let s : State := { inHand .remote 28 [] with message := messageOf [(28, []), (1, []), (29, [])] }
       hasItem s 28 [] = true ∧ ((messageItems s.message).drop 1).map (·.kind) = [1, 29]) := by decide +kernel

/-! ## Witnesses: constructions -/

theorem witness_SurrogateKeepsTheEndsAndFailsTheCheck :
    (13 ≤ panA.length ∧ panA.length ≤ 19 ∧ mod10Passes panA = true) ∧
      (List.replicate 13 (0 : Digit)).length = 13 ∧ mod10Passes (List.replicate 19 (0 : Digit)) = true := by
  decide +kernel

theorem witness_BuiltDatagramsPassTheAcceptanceChecks : (List.replicate 1472 (0 : Byte)).length ≤ 1472 :=
  (List.length_replicate).le

theorem witness_WrittenBodiesReadBack :
    (settings.tillVlan ≤ 4094 ∧ settings.lineVlan ≤ 4094 ∧ settings.warnMargin ≤ 65535 ∧
        settings.localFloor ≤ 128) ∧
      (demo.rules[1].probes.length ≤ 8 ∧ ∀ p ∈ demo.rules[1].probes, p.offset ≤ 1023) ∧
      (locator2.seqWidth = 2 ∧ locator2.seqOffset ≤ 1023 ∧ locator2.panLengthOffset ≤ 1023 ∧
        locator2.panOffset ≤ 1023 ∧ (∀ d ∈ locator2.indicator, d.offset ≤ 1023) ∧
        ∀ k ∈ locator2.companion, k.lengthOffset ≤ 1023 ∧ k.dataOffset ≤ 1023) := by decide +kernel

end Sys2Proof.Tests
end

section
/-! SUPPORT. What stands under every event: the waiting commands, the factory record and the uptime counter. Only a
power-on start and the tick move the uptime counter (R1), and no command moves the other two. One lemma for each
operation, in the order of the model's files, then one for each command. -/

namespace Sys2Proof.Machine

/-- The waiting commands, the factory record (section 1.2 of the introduction) and the uptime counter (R1). -/
def State.standing (s : State) : List Instr × FactoryRecord × BitVec 32 := (s.pending, s.factory, s.uptime)

/-- The three fields of a state that stands as another. -/
theorem State.standing_eq_iff {s t : State} :
    t.standing = s.standing ↔ t.pending = s.pending ∧ t.factory = s.factory ∧ t.uptime = s.uptime := by
  simp [State.standing]

/-- A run of operations each of which leaves the standing fields leaves them. -/
theorem foldl_standing {α : Type} (op : State → α → State) (h : ∀ s a, (op s a).standing = s.standing)
    (as : List α) (s : State) : (as.foldl op s).standing = s.standing := by
  induction as generalizing s with
  | nil => rfl
  | cons a as ih => exact (ih (op s a)).trans (h s a)

variable (s : State)

/-! ## Setters -/

@[simp] theorem State.setPort_standing (p : PortId) (x : PortState) : (s.setPort p x).standing = s.standing := by
  cases p <;> rfl

@[simp] theorem State.setReceive_standing (p : PortId) (f : Option Bytes) :
    (s.setReceive p f).standing = s.standing := s.setPort_standing p _

@[simp] theorem State.setBank_standing (k : Fin 16) (b : BankId) (x : KeyBank) :
    (s.setBank k b x).standing = s.standing := rfl

@[simp] theorem State.setExchange_standing (i : Fin 128) (x : Option Exchange) :
    (s.setExchange i x).standing = s.standing := rfl

@[simp] theorem State.setTill_standing (i : Fin 128) (t : TillEntry) : (s.setTill i t).standing = s.standing := rfl

@[simp] theorem State.releaseRefs_standing (k : Fin 16) (b : BankId) (n : Nat) :
    (s.releaseRefs k b n).standing = s.standing := rfl

@[simp] theorem State.takeRefs_standing (k : Fin 16) (b : BankId) (n : Nat) :
    (s.takeRefs k b n).standing = s.standing := rfl

@[simp] theorem State.freeFrame_standing (i : Fin 64) : (s.freeFrame i).standing = s.standing := rfl

@[simp] theorem State.setLastAccepted_standing (o : Origin) (n : Nat) :
    (s.setLastAccepted o n).standing = s.standing := by
  cases o <;> rfl

/-! ## Statuses and counters (Chapter 10) -/

@[simp] theorem State.latch_standing (e : EventSource) : (s.latch e).standing = s.standing := rfl

@[simp] theorem State.bump_standing (c : Counter) : (s.bump c).standing = s.standing := by
  rw [State.bump_eq]; rfl

@[simp] theorem State.bumpStat_standing (i : Fin 128) (k : Stat) : (s.bumpStat i k).standing = s.standing := by
  rw [State.bumpStat_eq]; rfl

@[simp] theorem State.guardBlocked_standing : s.guardBlocked.standing = s.standing := by
  simp [State.guardBlocked]

/-- The end of an event leaves the standing fields (R190, R194). -/
theorem SettlesTo.standing {a t : State} (h : SettlesTo a t) : t.standing = a.standing := by
  rw [h.others]; rfl

@[simp] theorem conclude_standing (start : Bool) (before : State) :
    (conclude start before s).standing = s.standing := (conclude_settles start before s).standing

/-! ## Cipher engine (R111 to R117) -/

@[simp] theorem State.enterJob_standing (j : Job) : (s.enterJob j).standing = s.standing := by
  obtain ⟨w, v, h⟩ := s.enterJob_shape j
  rw [h]; rfl

@[simp] theorem State.admitWaiting_standing : s.admitWaiting.standing = s.standing := by
  obtain ⟨w, v, m, h⟩ := s.admitWaiting_shape
  rw [h]; rfl

@[simp] theorem State.offerMgmt_standing (k : JobWork) : (s.offerMgmt k).standing = s.standing := by
  obtain ⟨w, v, m, h⟩ := s.offerMgmt_shape k
  rw [h]; rfl

@[simp] theorem State.finishLane_standing (l : Fin 4) : (s.finishLane l).standing = s.standing := by
  obtain ⟨w, v, m, h⟩ := s.finishLane_shape l
  rw [h]; rfl

@[simp] theorem State.discardJob_standing (t : JobTarget) : (s.discardJob t).standing = s.standing := rfl

/-! ## Response entries and the end of a message (R168, R171, R172, R175) -/

@[simp] theorem State.answer_standing (kind : Byte) (r : ResultCode) (body : Bytes) :
    (s.answer kind r body).standing = s.standing := rfl

@[simp] theorem State.answered_standing (c : Context) (kind : Byte) (r : ResultCode) (body : Bytes) :
    (s.answered c kind r body).standing = s.standing := rfl

@[simp] theorem State.answerRead_standing (kind : Byte) (body : Bytes) :
    (s.answerRead kind body).standing = s.standing := by
  unfold State.answerRead
  dsimp only
  split <;> exact s.answer_standing _ _ _

@[simp] theorem State.rejectMessage_standing : s.rejectMessage.standing = s.standing :=
  State.bump_standing _ _

@[simp] theorem State.endResponse_standing : s.endResponse.standing = s.standing := rfl

@[simp] theorem State.completeResponse_standing (key : Key) : (s.completeResponse key).standing = s.standing :=
  State.offerMgmt_standing _ _

/-! ## Output (R6, R7, R16 to R21) -/

@[simp] theorem State.arbiter_standing (p : PortId) : (s.arbiter p).standing = s.standing := by
  obtain ⟨x, w, n, h, _⟩ := s.arbiter_shape p
  rw [h]
  exact s.setPort_standing p x

@[simp] theorem State.releaseEntry_standing (p : PortId) (e : OwnEntry) :
    (s.releaseEntry p e).standing = s.standing := by
  cases e with
  | arp b => exact s.setPort_standing p _
  | wrapped i | forwarded i | standIn i | response | notice => rfl

@[simp] theorem State.releaseAbandoned_standing (p : PortId) (k : TxKind) :
    (s.releaseAbandoned p k).standing = s.standing := by
  unfold State.releaseAbandoned
  split
  · exact s.bump_standing _
  · rfl
  · exact s.releaseEntry_standing p _

@[simp] theorem State.releaseSent_standing (p : PortId) (k : TxKind) :
    (s.releaseSent p k).standing = s.standing := by
  unfold State.releaseSent
  split
  · exact s.bump_standing _
  · exact State.bump_standing _ _
  · exact s.releaseEntry_standing p _

@[simp] theorem State.offerOwn_standing (p : PortId) (e : OwnEntry) :
    (s.offerOwn p e).1.standing = s.standing := by
  rcases s.offerOwn_cases p e with ⟨_, h⟩ | ⟨_, _, _, h⟩ | ⟨_, _, h⟩ <;> simp [h]

@[simp] theorem State.offerBridge_standing (p : PortId) (f : Bytes) :
    (s.offerBridge p f).standing = s.standing := by
  rcases s.offerBridge_cases p f with ⟨_, h⟩ | ⟨_, _, _, h⟩ | ⟨_, _, _, h⟩ | ⟨_, _, _, h⟩ <;> simp [h]

/-! ## Exchanges and stand-ins (R103, R107, R109, R110) -/

@[simp] theorem State.closeExchange_standing (i : Fin 128) (n : Nat) :
    (s.closeExchange i n).standing = s.standing := by
  obtain ⟨sl, w, v, m, fr, fs, h⟩ := s.closeExchange_shape i n
  rw [h]; rfl

@[simp] theorem State.standIn_standing (i : Fin 128) (r : Reason) (q : Option Sequence) (port : UdpPort) :
    (s.standIn i r q port).standing = s.standing := by
  obtain ⟨st, cs, k, x, fr, fs, sb, d, w, n, h, _⟩ := s.standIn_shape i r q port
  rw [h]; rfl

@[simp] theorem State.closeLost_standing (i : Fin 128) (x : Exchange) (n : Nat) :
    (s.closeLost i x n).standing = s.standing := by
  simp [State.closeLost]

/-! ## Starts and the erase (R1, R2, R79, R186) -/

@[simp] theorem State.loseWork_standing : s.loseWork.standing = s.standing := rfl

/-- R1: a cold and a warm start leave the uptime counter 0. -/
theorem State.powerStart_standing : s.powerStart.standing = (s.pending, s.factory, 0) := by
  unfold State.powerStart
  split <;> rfl

@[simp] theorem State.eraseMessage_standing : s.eraseMessage.standing = s.standing := by
  unfold State.eraseMessage
  split
  · exact s.rejectMessage_standing
  · split
    · exact s.answer_standing _ _ _
    · rfl
  · exact s.offerMgmt_standing _
  · rfl

@[simp] theorem State.eraseAll_standing : s.eraseAll.standing = s.standing := by
  simp only [State.eraseAll, State.arbiter_standing, State.latch_standing, State.eraseMessage_standing]
  rfl

@[simp] theorem concludeResponse_standing (before : State) :
    (concludeResponse before s).standing = s.standing := by
  unfold concludeResponse
  split <;> simp

/-! ## Arrivals (R12 to R17, R87 to R101, R166 to R168) -/

@[simp] theorem State.dropMalformed_standing : s.dropMalformed.standing = s.standing := by
  simp [State.dropMalformed]

@[simp] theorem State.lateReply_standing : s.lateReply.standing = s.standing := by
  simp [State.lateReply]

@[simp] theorem State.arpArrive_standing (p : PortId) (f : Bytes) : (s.arpArrive p f).standing = s.standing := by
  unfold State.arpArrive
  split <;> simp

@[simp] theorem State.bridgeDecision_standing (p : PortId) (f : Bytes) :
    (s.bridgeDecision p f).standing = s.standing := by
  unfold State.bridgeDecision
  split <;> simp

@[simp] theorem State.openExchange_standing (c : Capture) (d : Destination) (b : BankId) (k : Fin 64)
    (rest : List (Fin 64)) (f : Bytes) : (s.openExchange c d b k rest f).standing = s.standing := by
  simp only [State.openExchange, State.enterJob_standing, State.setExchange_standing, State.setBank_standing]
  rfl

@[simp] theorem State.admitNew_standing (cap : RequestCapture) (f : Bytes) (m : Nat) :
    (s.admitNew cap f m).standing = s.standing := by
  unfold State.admitNew
  repeat' split
  all_goals simp only [State.standIn_standing, State.openExchange_standing]

@[simp] theorem State.admission_standing (cap : RequestCapture) (f : Bytes) (m : Nat) :
    (s.admission cap f m).standing = s.standing := by
  unfold State.admission
  repeat' split
  all_goals simp only [State.admitNew_standing, State.bump_standing, State.closeExchange_standing]

@[simp] theorem State.paymentArrive_standing (f : Bytes) : (s.paymentArrive f).standing = s.standing := by
  unfold State.paymentArrive
  repeat' split
  all_goals simp only [State.latch_standing, State.bump_standing, State.admission_standing]

@[simp] theorem State.acceptReply_standing (i : Fin 128) (x : Exchange) (k : Fin 64) (rest : List (Fin 64))
    (f : Bytes) : (s.acceptReply i x k rest f).standing = s.standing := by
  simp only [State.acceptReply, State.enterJob_standing, State.setExchange_standing, State.takeRefs_standing]
  rfl

@[simp] theorem State.matchReply_standing (i : Fin 128) (f : Bytes) :
    (s.matchReply i f).standing = s.standing := by
  unfold State.matchReply
  repeat' split
  all_goals simp only [State.lateReply_standing, State.bump_standing, State.acceptReply_standing]

@[simp] theorem State.replyArrive_standing (f : Bytes) : (s.replyArrive f).standing = s.standing := by
  unfold State.replyArrive
  dsimp only
  repeat' split
  all_goals simp only [State.lateReply_standing, State.matchReply_standing, State.dropMalformed_standing]

@[simp] theorem State.mgmtArrive_standing (p : PortId) (b : Bool) (f : Bytes) :
    (s.mgmtArrive p b f).standing = s.standing := by
  unfold State.mgmtArrive
  dsimp only
  split
  · exact s.bump_standing _
  · split
    · exact State.offerMgmt_standing _ _
    · exact s.rejectMessage_standing

@[simp] theorem State.unmatched_standing (p : PortId) (f : Bytes) : (s.unmatched p f).standing = s.standing := by
  unfold State.unmatched
  split <;> simp

@[simp] theorem State.deliver_standing (p : PortId) (f : Bytes) : (s.deliver p f).standing = s.standing := by
  unfold State.deliver
  repeat' split
  all_goals simp only [State.dropMalformed_standing, State.mgmtArrive_standing, State.paymentArrive_standing,
    State.bridgeDecision_standing, State.replyArrive_standing, State.unmatched_standing]

@[simp] theorem State.arrive_standing (p : PortId) (f : Bytes) : (s.arrive p f).standing = s.standing := by
  unfold State.arrive
  repeat' split
  all_goals simp only [State.arpArrive_standing, State.deliver_standing, State.dropMalformed_standing, State.bump_standing,
    State.bridgeDecision_standing]

@[simp] theorem State.linkLost_standing (p : PortId) : (s.linkLost p).standing = s.standing := by
  unfold State.linkLost
  rw [foldl_standing _ (fun st _ => st.bump_standing _), foldl_standing _ (fun st e => st.releaseEntry_standing p e)]
  split <;> simp

/-! ## Job results (R69, R70, R93 to R103, R169, R174, R177) -/

@[simp] theorem State.wrapTaken_standing (t : JobTarget) (x : Exchange) :
    (s.wrapTaken t x).standing = s.standing := by
  simp [State.wrapTaken]

@[simp] theorem State.sendWrapped_standing (t : JobTarget) (c : Capture) (d : Destination) (v : WrapValues)
    (x : Exchange) : (s.sendWrapped t c d v x).standing = s.standing := by
  have offered : (State.offerOwn
      { s with frames := s.frames.set t.frame (s.wrappedFrame t c d v), ident := s.ident + 1 } .L
      (.wrapped t.frame)).1.standing = s.standing := State.offerOwn_standing _ _ _
  unfold State.sendWrapped
  split
  next s1 h =>
    rw [h] at offered
    exact (s1.wrapTaken_standing t x).trans offered
  next s1 h =>
    rw [h] at offered
    simpa using offered

@[simp] theorem State.wrapDone_standing (id : Nat) (t : JobTarget) (c : Capture) (d : Destination)
    (v : WrapValues) : (s.wrapDone id t c d v).standing = s.standing := by
  unfold State.wrapDone
  repeat' split
  all_goals simp only [State.discardJob_standing, State.sendWrapped_standing]

@[simp] theorem State.forwardReply_standing (t : JobTarget) (n : Nat) (x : Exchange) :
    (s.forwardReply t n x).standing = s.standing := by
  simp only [State.forwardReply, State.bump_standing, State.closeExchange_standing, State.offerOwn_standing]
  rfl

@[simp] theorem State.failReply_standing (t : JobTarget) (x : Exchange) :
    (s.failReply t x).standing = s.standing := by
  unfold State.failReply
  dsimp only
  split <;> simp

@[simp] theorem State.verifyDone_standing (id : Nat) (t : JobTarget) (n : Nat) (pass : Bool) :
    (s.verifyDone id t n pass).standing = s.standing := by
  unfold State.verifyDone
  repeat' split
  all_goals simp only [State.discardJob_standing, State.forwardReply_standing, State.failReply_standing]

@[simp] theorem State.acceptMessage_standing (c : Context) : (s.acceptMessage c).standing = s.standing :=
  (State.bump_standing _ _).trans (s.setLastAccepted_standing _ _)

@[simp] theorem State.tagVerdict_standing (pass : Bool) : (s.tagVerdict pass).standing = s.standing := by
  unfold State.tagVerdict
  repeat' split
  all_goals simp only [State.acceptMessage_standing, State.rejectMessage_standing]

@[simp] theorem State.commitStage_standing (i : Fin 16) (bank : KeyBank) :
    (s.commitStage i bank).standing = s.standing := by
  unfold State.commitStage
  split <;> rfl

@[simp] theorem State.stageVerdict_standing (kind : Byte) (given : List (Key × CheckValue)) (keys : List Key)
    (pass : Bool) : (s.stageVerdict kind given keys pass).standing = s.standing := by
  unfold State.stageVerdict
  split
  · split
    · exact s.commitStage_standing _ _
    · rfl
  all_goals exact s.answer_standing _ _ _

@[simp] theorem State.loadVerdict_standing (kind : Byte) (keys : List Key) (pass : Bool) :
    (s.loadVerdict kind keys pass).standing = s.standing := by
  unfold State.loadVerdict
  split <;> rfl

@[simp] theorem State.unwrapVerdict_standing (given : List (Key × CheckValue)) (keys : List Key) (pass : Bool) :
    (s.unwrapVerdict given keys pass).standing = s.standing := by
  unfold State.unwrapVerdict
  repeat' split
  all_goals simp only [State.stageVerdict_standing, State.loadVerdict_standing]

@[simp] theorem State.tagResponse_standing (tag : Bytes) : (s.tagResponse tag).standing = s.standing := by
  unfold State.tagResponse
  split
  · exact State.offerOwn_standing _ _ _
  · rfl

/-! ## The rules of the item commands (Chapter 9) -/

@[simp] theorem State.dropStage_standing : s.dropStage.standing = s.standing := by
  rw [State.dropStage_eq]; rfl

@[simp] theorem State.clearStatuses_standing (named : Vector Bool 18) :
    (s.clearStatuses named).standing = s.standing := by
  simp [State.clearStatuses, State.standing]

@[simp] theorem State.clearCounters_standing : s.clearCounters.standing = s.standing := by
  simp [State.clearCounters, State.standing]

@[simp] theorem State.restartItem_standing (c : Context) (item : Item) :
    (s.restartItem c item).standing = s.standing := by
  have answers := foldl_standing (fun (st : State) (i : Item) => st.answer i.kind .notExecuted [])
    (fun st i => st.answer_standing _ _ _) ((messageItems s.message).drop c.nextItem)
    (s.answer item.kind .done [])
  exact (State.completeResponse_standing _ _).trans answers

/-- A rule's answer is a refusal, or a state that stands as `s`. -/
def RuleStands (s : State) : Except ResultCode State → Prop
  | .ok t => t.standing = s.standing
  | .error _ => True

theorem RuleStands.refused {s : State} (r : ResultCode) : RuleStands s (.error r) := trivial

theorem RuleStands.done {s t : State} (h : t.standing = s.standing) : RuleStands s (.ok t) := h

/-- The state a rule answers stands. -/
theorem RuleStands.standing {s t : State} {r : Except ResultCode State} (h : RuleStands s r) (e : r = .ok t) :
    t.standing = s.standing := by
  rw [e] at h
  exact h

/-- A rule that is an effect on an entry read from the body. -/
theorem RuleStands.map {α : Type} {s : State} (x : Except ResultCode α) (effect : α → State)
    (h : ∀ a, (effect a).standing = s.standing) : RuleStands s (x.map effect) := by
  cases x with
  | error r => exact .refused r
  | ok a => exact h a

variable (b : Bytes)

theorem State.writeSettings_stands : RuleStands s (s.writeSettings b) := by
  unfold State.writeSettings
  split; · exact .refused _
  exact .done rfl

theorem State.writeTill_stands : RuleStands s (s.writeTill b) := by
  unfold State.writeTill
  split; · exact .refused _
  split; · exact .refused _
  split; · exact .refused _
  exact .done (by simp)

theorem State.clearTill_stands : RuleStands s (s.clearTill b) :=
  .map _ _ fun i => by simp

theorem State.writeRule_stands : RuleStands s (s.writeRule b) := by
  unfold State.writeRule
  split; · exact .refused _
  split; · exact .refused _
  split; · exact .refused _
  exact .done rfl

theorem State.clearRule_stands : RuleStands s (s.clearRule b) := .map _ _ fun _ => rfl

theorem State.writeLocator_stands : RuleStands s (s.writeLocator b) := by
  unfold State.writeLocator
  split; · exact .refused _
  split; · exact .refused _
  split; · exact .refused _
  exact .done rfl

theorem State.clearLocator_stands : RuleStands s (s.clearLocator b) := by
  unfold State.clearLocator
  split; · exact .refused _
  split; · exact .refused _
  exact .done rfl

theorem State.writeDestination_stands : RuleStands s (s.writeDestination b) := .map _ _ fun _ => rfl

theorem State.clearDestination_stands : RuleStands s (s.clearDestination b) := .map _ _ fun _ => rfl

theorem State.stageOpen_stands (c : Context) : RuleStands s (s.stageOpen c b) := by
  unfold State.stageOpen
  iterate 6 (split; · exact .refused _)
  exact .done rfl

theorem State.switchSlot_stands : RuleStands s (s.switchSlot b) := by
  unfold State.switchSlot
  split; · exact .refused _
  split; · exact .refused _
  exact .done rfl

theorem State.retireSlot_stands : RuleStands s (s.retireSlot b) := by
  unfold State.retireSlot
  split; · exact .refused _
  split; · exact .refused _
  split; · exact .refused _
  exact .done (s.setBank_standing _ _ _)

theorem State.discardStage_stands : RuleStands s (s.discardStage b) := by
  unfold State.discardStage
  split; · exact .refused _
  split; · exact .refused _
  exact .done (s.setBank_standing _ _ _)

theorem State.writeEventMap_stands : RuleStands s (s.writeEventMap b) := by
  unfold State.writeEventMap
  split; · exact .refused _
  split; · exact .refused _
  exact .done rfl

/-! ## Commands -/

/-- The outcome `o` is a next state that stands as `s`. -/
def Stands (s : State) (o : Host.Outcome State Fault Refusal) : Prop :=
  ∃ t, o = .next t ∧ t.standing = s.standing

theorem Stands.next {s t : State} (h : t.standing = s.standing) : Stands s (.next t) := ⟨t, rfl, h⟩

/-- A command whose event cannot occur. -/
theorem Stands.same : Stands s (.next s) := .next rfl

/-- A command whose event ends. -/
theorem Stands.event {s t : State} (start : Bool) (h : t.standing = s.standing) :
    Stands s (.next (conclude start s t)) := .next ((conclude_standing t start s).trans h)

/-- An item command stands where its own rule does (R171). -/
theorem itemEvent_stands (start : Bool) (p : Nat → Bool) (act : State → Context → Item → State)
    (h : ∀ c item, (act s c item).standing = s.standing) : Stands s (itemEvent start p act s) := by
  rcases itemEvent_cases start p act s with ⟨_, e⟩ | ⟨c, item, _, _, ⟨r, _, e⟩ | ⟨_, e⟩⟩ <;> rw [e]
  · exact .same s
  · exact .event _ (s.answered_standing c _ _ _)
  · exact .event _ (h c item)

theorem writeItem_stands (code : Nat) (rule : State → Bytes → Except ResultCode State)
    (h : ∀ a b, RuleStands a (rule a b)) : Stands s (writeItem code rule s) := by
  refine itemEvent_stands s false _ _ fun c item => ?_
  have stands := h s.dropStage item.body
  split
  next t e => exact (stands.standing e).trans s.dropStage_standing
  next => exact s.dropStage_standing

theorem readItem_stands (code : Nat) (rule : State → Bytes → Except ResultCode Bytes) :
    Stands s (readItem code rule s) := by
  refine itemEvent_stands s false _ _ fun c item => ?_
  split <;> simp

theorem execStageOpen_stands : Stands s (execStageOpen s) := by
  refine itemEvent_stands s false _ _ fun c item => ?_
  have stands := s.dropStage.stageOpen_stands item.body c
  split
  next t e => exact (stands.standing e).trans s.dropStage_standing
  next => exact s.dropStage_standing

theorem execStageKeys_stands : Stands s (execStageKeys s) := by
  refine itemEvent_stands s false _ _ fun c item => ?_
  split
  · exact State.offerMgmt_standing _ _
  · exact s.dropStage_standing

theorem execLinkUp_stands (p : PortId) : Stands s (execLinkUp p s) := by
  unfold execLinkUp
  split
  · exact .same s
  · exact .event _ (by simp)

theorem execLinkDown_stands (p : PortId) : Stands s (execLinkDown p s) := by
  unfold execLinkDown
  split
  · exact .same s
  · exact .next (by simp)

theorem execFrameReceived_stands (p : PortId) (wire : Bytes) : Stands s (execFrameReceived p wire s) := by
  unfold execFrameReceived
  split
  · exact .same s
  · split
    · exact .event _ (by simp)
    · exact .event _ (s.bump_standing _)

theorem execTransmissionComplete_stands (p : PortId) : Stands s (execTransmissionComplete p s) := by
  unfold execTransmissionComplete
  split
  · exact .same s
  · exact .next (by simp)

theorem execWrapCompletion_stands (l : Fin 4) : Stands s (execWrapCompletion l s) := by
  unfold execWrapCompletion
  split
  · exact .event _ (by simp)
  all_goals exact .same s

theorem execVerifyCompletion_stands (l : Fin 4) : Stands s (execVerifyCompletion l s) := by
  unfold execVerifyCompletion
  split
  · exact .event _ (by simp)
  all_goals exact .same s

theorem execMgmtTagResult_stands : Stands s (execMgmtTagResult s) := by
  unfold execMgmtTagResult
  split
  · exact .same s
  · exact .event _ (by simp)

theorem execKeyUnwrapResult_stands : Stands s (execKeyUnwrapResult s) := by
  unfold execKeyUnwrapResult
  split
  · exact .same s
  · exact .event _ (by simp)

theorem execResponseCompletion_stands : Stands s (execResponseCompletion s) := by
  unfold execResponseCompletion
  split
  · split
    · exact .event _ (s.completeResponse_standing _)
    · exact .same s
  · exact .same s

theorem execResponseTagResult_stands : Stands s (execResponseTagResult s) := by
  unfold execResponseTagResult
  split
  · exact .same s
  · exact .next (by simp)

theorem execEraseLineAsserted_stands : Stands s (execEraseLineAsserted s) := by
  unfold execEraseLineAsserted
  split
  · exact .same s
  · exact .event _ (State.eraseAll_standing _)

theorem execDeadlineExpiry_stands (i : Fin 128) : Stands s (execDeadlineExpiry i s) := by
  unfold execDeadlineExpiry
  split; · exact .same s
  split; · exact .same s
  split
  · exact .event _ (s.closeLost_standing _ _ _)
  · exact .event _ (s.closeLost_standing _ _ _)
  · exact .next (s.setExchange_standing _ _)

theorem execWriteEventEnables_stands : Stands s (execWriteEventEnables s) := by
  unfold execWriteEventEnables
  exact writeItem_stands s _ _ fun _ _ => .done (by simp [State.standing])

theorem execClearEvents_stands : Stands s (execClearEvents s) := by
  unfold execClearEvents
  exact writeItem_stands s _ _ fun a _ => .done (a.clearStatuses_standing _)

theorem execClearCounters_stands : Stands s (execClearCounters s) := by
  unfold execClearCounters
  exact writeItem_stands s _ _ fun a _ => .done a.clearCounters_standing

/-- R1: a power-on start leaves the uptime counter 0, after an erase at its end too. -/
theorem execPowerOnReset_standing :
    ∃ t, execPowerOnReset s = .next t ∧ t.standing = (s.pending, s.factory, 0) := by
  refine ⟨_, rfl, (conclude_standing _ true s).trans ?_⟩
  split
  · exact s.powerStart.eraseAll_standing.trans s.powerStart_standing
  · exact s.powerStart_standing

/-- R1: a millisecond adds 1 to the uptime counter. -/
theorem execUptimeTick_standing :
    ∃ t, execUptimeTick s = .next t ∧ t.standing = (s.pending, s.factory, s.uptime + 1) := ⟨_, rfl, rfl⟩

/-- R1: every command but a power-on start and the tick leaves the waiting commands, the factory record and the uptime
counter as they stood. -/
theorem exec_stands (c : Instr) (tick : c ≠ .uptimeTick) (start : c ≠ .powerOnReset) : Stands s (exec c s) := by
  unfold exec
  cases c with
  | powerOnReset => exact absurd rfl start
  | uptimeTick => exact absurd rfl tick
  | eraseLineAsserted => exact execEraseLineAsserted_stands s
  | eraseLineDeasserted | batterySupplyLost => exact .next rfl
  | deadlineExpiry i => exact execDeadlineExpiry_stands s i
  | linkUp p => exact execLinkUp_stands s p
  | linkDown p => exact execLinkDown_stands s p
  | frameReceived p wire => exact execFrameReceived_stands s p wire
  | transmissionComplete p => exact execTransmissionComplete_stands s p
  | wrapCompletion l => exact execWrapCompletion_stands s l
  | verifyCompletion l => exact execVerifyCompletion_stands s l
  | mgmtTagResult => exact execMgmtTagResult_stands s
  | keyUnwrapResult => exact execKeyUnwrapResult_stands s
  | responseCompletion => exact execResponseCompletion_stands s
  | responseTagResult => exact execResponseTagResult_stands s
  | readSettings | readTill | readRule | readLocator | readDestination | readSlot | readEvents | readCounters =>
    exact readItem_stands s _ _
  | writeSettings => exact writeItem_stands s _ _ State.writeSettings_stands
  | writeTill => exact writeItem_stands s _ _ State.writeTill_stands
  | clearTill => exact writeItem_stands s _ _ State.clearTill_stands
  | writeRule => exact writeItem_stands s _ _ State.writeRule_stands
  | clearRule => exact writeItem_stands s _ _ State.clearRule_stands
  | writeLocator => exact writeItem_stands s _ _ State.writeLocator_stands
  | clearLocator => exact writeItem_stands s _ _ State.clearLocator_stands
  | writeDestination => exact writeItem_stands s _ _ State.writeDestination_stands
  | clearDestination => exact writeItem_stands s _ _ State.clearDestination_stands
  | stageOpen => exact execStageOpen_stands s
  | stageKeys => exact execStageKeys_stands s
  | switch => exact writeItem_stands s _ _ State.switchSlot_stands
  | retire => exact writeItem_stands s _ _ State.retireSlot_stands
  | discardStage => exact writeItem_stands s _ _ State.discardStage_stands
  | writeEventMap => exact writeItem_stands s _ _ State.writeEventMap_stands
  | writeEventEnables => exact execWriteEventEnables_stands s
  | clearEvents => exact execClearEvents_stands s
  | clearCounters => exact execClearCounters_stands s
  | loadMgmtKeys | restart | erase | unknownItemKind => exact itemEvent_stands s _ _ _ fun _ _ => by simp

end Sys2Proof.Machine
end

section
/-! R1: how the uptime counter moves. -/

open Sys2Proof Sys2Proof.Machine

/-- Settles O3: the power-on start and the tick give their own value, and every other command leaves the counter with
the standing fields. -/
theorem uptimeMovesByTickAndStarts : Obligations.UptimeMovesByTickAndStarts := by
  intro c s t h
  refine ⟨?tick, ?start, ?other⟩
  case tick =>
    rintro rfl
    cases h
    exact BitVec.toNat_add _ _
  case start =>
    rintro rfl
    obtain ⟨u, hu, standing⟩ := execPowerOnReset_standing s
    cases h.symm.trans hu
    exact congrArg (·.2.2.toNat) standing
  case other =>
    intro tick start
    obtain ⟨u, hu, standing⟩ := exec_stands s c tick start
    cases h.symm.trans hu
    exact (State.standing_eq_iff.mp standing).2.2
end

section
/-! SUPPORT. The till table looked up by address (R46, R47), classification (R27 to R29), and the arrival of a payment
request (rows 1 to 4 of Table 1-7): what each answers, in the words of the statements. -/

namespace Sys2Proof.Machine

variable {s : State} {f m : Bytes}

/-! ## Till lookup -/

theorem State.findTill_eq_none_iff {p : TillEntry → Bool} :
    s.findTill p = none ↔ ∀ i : Fin 128, p s.tills[i] = false := by
  simp [State.findTill, List.find?_eq_none]

theorem State.findTill_some {p : TillEntry → Bool} {i : Fin 128} (h : s.findTill p = some i) :
    p s.tills[i] = true :=
  List.find?_some (p := fun i : Fin 128 => p s.tills[i]) h

/-- An entry that alone has the property looked up is the one found. -/
theorem State.findTill_eq_some_of_unique {p : TillEntry → Bool} {i : Fin 128} (found : p s.tills[i] = true)
    (unique : ∀ j : Fin 128, p s.tills[j] = true → j = i) : s.findTill p = some i := by
  cases h : s.findTill p with
  | none => exact absurd found (Bool.eq_false_iff.mp (State.findTill_eq_none_iff.mp h i))
  | some j => exact congrArg some (unique j (State.findTill_some h))

/-- R46: the lookup by address finds the one valid entry that has it. -/
theorem State.TillFound.findTill {i : Fin 128} (h : s.TillFound f i) :
    s.findTill (fun t => t.valid && t.ip == ipSource f) = some i := by
  obtain ⟨valid, ip, unique⟩ := h
  refine State.findTill_eq_some_of_unique (Bool.and_eq_true_iff.mpr ⟨valid, beq_iff_eq.mpr ip⟩) fun j hj => ?_
  obtain ⟨validJ, ipJ⟩ := Bool.and_eq_true_iff.mp hj
  exact unique j validJ (beq_iff_eq.mp ipJ)

/-! ## Classification -/

theorem probeMatches_iff {p : Probe} :
    probeMatches m p = true ↔ p.offset < m.length ∧ byteAt m p.offset &&& p.mask = p.value &&& p.mask := by
  simp [probeMatches]

theorem ruleMatches_iff_takes {r : Rule} : ruleMatches m r = true ↔ r.Takes m := by
  simp [ruleMatches, probeMatches_iff]

theorem classify_eq_none_iff {rules : Vector Rule 16} :
    classify rules m = none ↔ ∀ r : Fin 16, ¬ rules[r].Takes m := by
  simp only [classify, List.find?_eq_none, ruleMatches_iff_takes, Vector.mem_toList_iff]
  constructor
  · exact fun none r => none rules[r] (Vector.getElem_mem r.isLt)
  · intro none x hx
    obtain ⟨r, hr, rfl⟩ := Vector.getElem_of_mem hx
    exact none ⟨r, hr⟩

/-! ## The request's arrival -/

/-- R47: no valid entry has the source address. -/
theorem State.paymentArrive_of_unknown_till
    (unknown : ∀ j : Fin 128, s.tills[j].valid = true → s.tills[j].ip ≠ ipSource f) :
    s.paymentArrive f = (s.latch .unknownTill).bump .unknownTill := by
  have missed : s.findTill (fun t => t.valid && t.ip == ipSource f) = none := by
    simpa [State.findTill_eq_none_iff] using unknown
  unfold State.paymentArrive
  rw [missed]

/-- R29: the till is known and no valid rule takes the payload. -/
theorem State.paymentArrive_of_no_rule {i : Fin 128} (found : s.TillFound f i)
    (unclassified : ∀ r : Fin 16, ¬ s.rules[r].Takes (udpPayload f)) :
    s.paymentArrive f = (s.latch .noRule).bump .noRule := by
  unfold State.paymentArrive
  rw [found.findTill, classify_eq_none_iff.mpr unclassified]

/-- Rows 1 to 4 of Table 1-7: such a frame goes to the till lookup. -/
theorem State.PaymentAt.arrive (h : s.PaymentAt f) : s.arrive .T f = s.paymentArrive f := by
  obtain ⟨notArp, addressed, accepted, udp, notManagement, service, vlan⟩ := h
  have notArp : isArpRequest s.factory.station (s.ownAddress .T) f = false := notArp
  simp [State.arrive, State.deliver, notArp, addressed, accepted, udp, notManagement, service, vlan]

/-- A payment request's arrival answers its dispatch with the receive buffer empty, and the end of the event. -/
theorem exec_frameReceived_payment {wire : Bytes} (arrives : s.Arrives .T wire f) (payment : s.PaymentAt f) :
    ∃ t, exec (.frameReceived .T wire) s = .next t ∧ SettlesTo ((s.setReceive .T none).paymentArrive f) t := by
  have payment : (s.setReceive .T none).PaymentAt f := payment
  rw [← payment.arrive]
  exact ⟨_, execFrameReceived_arrives s .T wire f arrives, conclude_settles ..⟩

end Sys2Proof.Machine
end

section
/-! R47 and R29: the requests that the till table or the rules do not know. -/

open Sys2Proof Sys2Proof.Machine

/-- Settles O34: the request's arrival is its till lookup and classification, and each drop is the answer of one of
them that finds nothing; emptying the receive buffer touches neither table. -/
theorem unknownAndUnclassifiedRequestsAreDropped : Obligations.UnknownAndUnclassifiedRequestsAreDropped := by
  intro s wire f arrives payment
  have arrival := exec_frameReceived_payment arrives payment
  refine ⟨fun unknown => ?unknown, fun i found unclassified => ?unclassified⟩
  case unknown =>
    rwa [(s.setReceive .T none).paymentArrive_of_unknown_till unknown] at arrival
  case unclassified =>
    rwa [(s.setReceive .T none).paymentArrive_of_no_rule found unclassified] at arrival
end

section
/-! SUPPORT. An index byte in or out of range, the STAGED bank of a slot, what DISCARD_STAGE's rule answers (R74), and a
bank written beside the item's answer. -/

namespace Sys2Proof.Machine

/-! ## Index bytes -/

theorem indexOf_of_le {n : Nat} {b : Byte} (out : n ≤ b.toNat) : indexOf n b = none := by
  simp [indexOf, out]

theorem indexOf_of_toNat_eq {n : Nat} {b : Byte} {i : Fin n} (named : b.toNat = i.val) : indexOf n b = some i := by
  simp [indexOf, named]

/-! ## The STAGED bank -/

variable {k : KeySlot} {s : State} {i : Fin 16} {x : BankId} {b : Bytes}

theorem KeySlot.staged_eq_none (absent : ∀ x, (k.bank x).state ≠ .staged) : k.staged = none := by
  have notA : k.a.state ≠ .staged := absent .A
  have notB : k.b.state ≠ .staged := absent .B
  simp [KeySlot.staged, notA, notB]

/-- R58: a legal slot has no second STAGED bank that the lookup could find first. -/
theorem KeySlot.Legal.staged_eq_some (legal : k.Legal) (staged : (k.bank x).state = .staged) :
    k.staged = some x := by
  cases x with
  | A =>
    have stagedA : k.a.state = .staged := staged
    simp [KeySlot.staged, stagedA]
  | B =>
    have stagedB : k.b.state = .staged := staged
    have notA : k.a.state ≠ .staged := fun stagedA => by
      have emptyA := legal (stagedA.trans stagedB.symm)
      cases stagedA.symm.trans emptyA
    simp [KeySlot.staged, stagedB, notA]

/-! ## The rule of DISCARD_STAGE (R74) -/

theorem State.discardStage_of_bad_index (out : 16 ≤ (byteAt b 0).toNat) :
    s.discardStage b = .error .badIndex := by
  simp [State.discardStage, indexOf_of_le out]

theorem State.discardStage_of_none_staged (named : (byteAt b 0).toNat = i.val)
    (absent : ∀ x, (s.bank i x).state ≠ .staged) : s.discardStage b = .error .nothingStaged := by
  have missed : s.slots[i].staged = none := KeySlot.staged_eq_none absent
  simp only [State.discardStage, indexOf_of_toNat_eq named, missed]

theorem State.discardStage_of_staged (named : (byteAt b 0).toNat = i.val) (legal : s.slots[i].Legal)
    (staged : (s.bank i x).state = .staged) : s.discardStage b = .ok (s.setBank i x .cleared) := by
  have found : s.slots[i].staged = some x := legal.staged_eq_some staged
  simp only [State.discardStage, indexOf_of_toNat_eq named, found]

/-! ## The item's answer -/

@[simp] theorem State.dropStage_slots (s : State) : s.dropStage.slots = s.slots := by
  rw [State.dropStage_eq]

@[simp] theorem State.dropStage_bank (s : State) (i : Fin 16) (x : BankId) : s.dropStage.bank i x = s.bank i x := by
  simp [State.bank]

/-- A bank written after an open stage is dropped is written beside the answer. -/
theorem State.dropStage_setBank_answer {c : Context} (h : s.context = some c) (v : KeyBank) (kind : Byte)
    (r : ResultCode) (body : Bytes) :
    (s.dropStage.setBank i x v).answer kind r body = (s.answered c kind r body).setBank i x v :=
  calc (s.dropStage.setBank i x v).answer kind r body
      = (s.dropStage.answer kind r body).setBank i x v := rfl
    _ = (s.answered c kind r body).setBank i x v := by rw [s.dropStage_answer c h]

variable {c : Context} {item : Item} {code : Nat} {rule : State → Bytes → Except ResultCode State} {r : ResultCode}

/-- A write item of the remote origin that its own rule refuses answers that refusal alone. -/
theorem writeItem_settles_refused (remote : s.RemoteItem c item code b) (form : bodyForm code b = some true)
    (refused : rule s.dropStage b = .error r) :
    ∃ t, writeItem code rule s = .next t ∧ SettlesTo (s.answered c item.kind r []) t := by
  obtain ⟨hand, origin, rfl, rfl⟩ := remote
  have passes := s.refusalOf_remote c item origin form
  exact ⟨_, writeItem_refused _ rule s c item r hand rfl passes refused, conclude_settles ..⟩

/-- A write item of the remote origin whose rule writes one bank answers DONE with that bank written. -/
theorem writeItem_settles_setBank {v : KeyBank} (remote : s.RemoteItem c item code b)
    (form : bodyForm code b = some true) (done : rule s.dropStage b = .ok (s.dropStage.setBank i x v)) :
    ∃ t, writeItem code rule s = .next t ∧
      SettlesTo ((s.answered c item.kind .done []).setBank i x v) t := by
  obtain ⟨hand, origin, rfl, rfl⟩ := remote
  have passes := s.refusalOf_remote c item origin form
  have ⟨_, context, _, _⟩ := hand
  rw [← State.dropStage_setBank_answer context]
  exact ⟨_, writeItem_done _ rule s _ c item hand rfl passes done, conclude_settles ..⟩

end Sys2Proof.Machine
end

section
/-! R74: DISCARD_STAGE. -/

open Sys2Proof Sys2Proof.Machine

/-- Settles O54: the three answers of the rule of R74 are the three cases of the statement; in a legal slot the STAGED
bank named is the one the rule finds. -/
theorem discardStageEmptiesTheStagedBank : Obligations.DiscardStageEmptiesTheStagedBank := by
  intro s c item n remote
  have form : bodyForm 20 [n] = some true := rfl
  refine ⟨fun out => ?badIndex, fun i named legal => ⟨fun absent => ?nothingStaged, fun x staged => ?discarded⟩⟩
  case badIndex => exact writeItem_settles_refused remote form (State.discardStage_of_bad_index out)
  case nothingStaged =>
    have absent : ∀ x, (s.dropStage.bank i x).state ≠ .staged := by simpa using absent
    exact writeItem_settles_refused remote form (State.discardStage_of_none_staged named absent)
  case discarded =>
    have legal : s.dropStage.slots[i].Legal := by rwa [s.dropStage_slots]
    have staged : (s.dropStage.bank i x).state = .staged := by rwa [s.dropStage_bank]
    exact writeItem_settles_setBank remote form (State.discardStage_of_staged named legal staged)
end

section
/-! SUPPORT. The rule that classifies a payload (R28), the recognition of a request (R37, R38), and the duplicate test of
its admission (R88). -/

namespace Sys2Proof.Machine

variable {s : State} {f m : Bytes} {i : Fin 128} {r : Fin 16} {cap : RequestCapture} {x : Exchange}

/-! ## Classification and capture -/

/-- R28: classification answers the first rule, in order of index, that takes the payload. -/
theorem State.RuleFound.classify (h : s.RuleFound m r) : classify s.rules m = some s.rules[r] := by
  obtain ⟨takes, first⟩ := h
  refine List.find?_eq_some_iff_getElem.mpr
    ⟨ruleMatches_iff_takes.mpr takes, r.val, by simp, by simp, fun j before => ?_⟩
  have passed : ¬ ruleMatches m s.rules[j] = true :=
    ruleMatches_iff_takes.not.mpr (first ⟨j, before.trans r.isLt⟩ before)
  simpa using passed

@[simp] theorem captureRequest_till (i : Fin 128) (r : Rule) (l : Locator) (m : Bytes) (port : UdpPort) :
    (captureRequest i r l m port).till = i := by
  unfold captureRequest
  cases extract l m with
  | refused reason q => rfl
  | accepted q card => rfl

/-! ## Recognition and admission -/

/-- R12, R28, R46: a request of a known till that a rule takes is counted as recognised, and its capture goes to
admission. -/
theorem State.paymentArrive_of_request (found : s.TillFound f i) (rule : s.RuleFound (udpPayload f) r)
    (captured :
      captureRequest i s.rules[r] s.locators[s.rules[r].locator] (udpPayload f) (udpSource f) = cap) :
    s.paymentArrive f = (s.bump .requestsRecognised).admission cap f (udpPayload f).length := by
  unfold State.paymentArrive
  rw [found.findTill, rule.classify, ← captured]

@[simp] theorem State.bump_tills (s : State) (c : Counter) : (s.bump c).tills = s.tills := by
  rw [State.bump_eq]

/-- R88: a request with the sequence of its till's open exchange is counted, and admission ends there. -/
theorem State.admission_of_duplicate {n : Nat} (exchange : s.tills[cap.till].exchange = some x)
    (same : cap.seq = some x.seq) : s.admission cap f n = s.bump .duplicates := by
  simp only [State.admission, exchange, if_pos same]

/-- An arriving request's capture names its till; the arrival answers the admission of that capture, with the receive
buffer empty, and the end of the event. -/
theorem exec_frameReceived_request {wire : Bytes} (request : s.RequestAt wire f i r cap) :
    cap.till = i ∧ ∃ t, exec (.frameReceived .T wire) s = .next t ∧
      SettlesTo
        (((s.setReceive .T none).bump .requestsRecognised).admission cap f (udpPayload f).length) t := by
  obtain ⟨arrives, payment, found, rule, captured⟩ := request
  have arrival := exec_frameReceived_payment arrives payment
  rw [(s.setReceive .T none).paymentArrive_of_request found rule captured] at arrival
  exact ⟨captured ▸ captureRequest_till .., arrival⟩

end Sys2Proof.Machine
end

section
/-! R88: duplicate requests. -/

open Sys2Proof Sys2Proof.Machine

/-- Settles O35: the arrival is the admission of the request's capture, and neither emptying the receive buffer nor
counting the recognition touches the exchange record that the capture's sequence is compared with. -/
theorem duplicateRequestsAreDropped : Obligations.DuplicateRequestsAreDropped := by
  intro s wire f i r cap x request exchange same
  obtain ⟨rfl, arrival⟩ := exec_frameReceived_request request
  have exchange : ((s.setReceive .T none).bump .requestsRecognised).tills[cap.till].exchange = some x := by
    rw [State.bump_tills]
    exact exchange
  rwa [State.admission_of_duplicate exchange same] at arrival
end

section
/-! SUPPORT. The last accepted sequences (R170) under every shared operation and every arrival, in the order of the
model's files: only an acceptance and a cold start write them. -/

namespace Sys2Proof.Machine

theorem State.lastAccepted_eq_iff {s t : State} :
    t.lastAccepted = s.lastAccepted ↔ t.lastRemote = s.lastRemote ∧ t.lastLocal = s.lastLocal :=
  ⟨fun h => ⟨congrFun h .remote, congrFun h .store⟩,
    fun ⟨remote, store⟩ => funext fun o => by cases o <;> assumption⟩

/-- A run of operations each of which keeps the sequences keeps them. -/
theorem foldl_lastAccepted {α : Type} {op : State → α → State}
    (h : ∀ s a, (op s a).lastAccepted = s.lastAccepted) (as : List α) (s : State) :
    (as.foldl op s).lastAccepted = s.lastAccepted :=
  List.foldlRecOn (motive := fun t => t.lastAccepted = s.lastAccepted) as op rfl fun t kept a _ => (h t a).trans kept

variable (s : State)

/-! ## Setters -/

@[simp] theorem State.setPort_lastAccepted (p : PortId) (x : PortState) :
    (s.setPort p x).lastAccepted = s.lastAccepted := by
  cases p <;> rfl

@[simp] theorem State.setBank_lastAccepted (k : Fin 16) (b : BankId) (x : KeyBank) :
    (s.setBank k b x).lastAccepted = s.lastAccepted := rfl

@[simp] theorem State.setExchange_lastAccepted (i : Fin 128) (x : Option Exchange) :
    (s.setExchange i x).lastAccepted = s.lastAccepted := rfl

@[simp] theorem State.setTill_lastAccepted (i : Fin 128) (t : TillEntry) :
    (s.setTill i t).lastAccepted = s.lastAccepted := rfl

@[simp] theorem State.releaseRefs_lastAccepted (k : Fin 16) (b : BankId) (n : Nat) :
    (s.releaseRefs k b n).lastAccepted = s.lastAccepted := rfl

@[simp] theorem State.freeFrame_lastAccepted (i : Fin 64) : (s.freeFrame i).lastAccepted = s.lastAccepted := rfl

/-! ## Statuses, counters and the end of an event (Chapter 10) -/

@[simp] theorem State.latch_lastAccepted (e : EventSource) : (s.latch e).lastAccepted = s.lastAccepted := rfl

@[simp] theorem State.bump_lastAccepted (c : Counter) : (s.bump c).lastAccepted = s.lastAccepted := by
  rw [State.bump_eq]; rfl

@[simp] theorem State.bumpStat_lastAccepted (i : Fin 128) (k : Stat) :
    (s.bumpStat i k).lastAccepted = s.lastAccepted := by
  rw [State.bumpStat_eq]; rfl

@[simp] theorem conclude_lastAccepted (start : Bool) (before : State) :
    (conclude start before s).lastAccepted = s.lastAccepted := by
  rw [(conclude_settles start before s).others]; rfl

@[simp] theorem conclude_mgu (start : Bool) (before : State) : (conclude start before s).mgu = s.mgu := by
  rw [(conclude_settles start before s).others]

@[simp] theorem concludeResponse_lastAccepted (before : State) :
    (concludeResponse before s).lastAccepted = s.lastAccepted := by
  unfold concludeResponse
  split
  · exact conclude_lastAccepted _ _ _
  · exact conclude_lastAccepted _ _ _

/-! ## Cipher engine (R111 to R117) -/

@[simp] theorem State.enterJob_lastAccepted (j : Job) : (s.enterJob j).lastAccepted = s.lastAccepted := by
  obtain ⟨w, v, h⟩ := s.enterJob_shape j
  rw [h]; rfl

@[simp] theorem State.offerMgmt_lastAccepted (k : JobWork) : (s.offerMgmt k).lastAccepted = s.lastAccepted := by
  obtain ⟨w, v, m, h⟩ := s.offerMgmt_shape k
  rw [h]; rfl

@[simp] theorem State.finishLane_lastAccepted (l : Fin 4) : (s.finishLane l).lastAccepted = s.lastAccepted := by
  obtain ⟨w, v, m, h⟩ := s.finishLane_shape l
  rw [h]; rfl

@[simp] theorem State.discardJob_lastAccepted (t : JobTarget) :
    (s.discardJob t).lastAccepted = s.lastAccepted := rfl

/-! ## Response entries and the end of a message (R168, R171, R172, R174) -/

@[simp] theorem State.answer_lastAccepted (kind : Byte) (r : ResultCode) (body : Bytes) :
    (s.answer kind r body).lastAccepted = s.lastAccepted := rfl

@[simp] theorem State.answerRead_lastAccepted (kind : Byte) (body : Bytes) :
    (s.answerRead kind body).lastAccepted = s.lastAccepted := by
  unfold State.answerRead
  dsimp only
  split <;> rfl

@[simp] theorem State.rejectMessage_lastAccepted : s.rejectMessage.lastAccepted = s.lastAccepted :=
  State.bump_lastAccepted _ _

@[simp] theorem State.completeResponse_lastAccepted (key : Key) :
    (s.completeResponse key).lastAccepted = s.lastAccepted :=
  State.offerMgmt_lastAccepted _ _

/-! ## Output (R6, R7, R16 to R21) -/

@[simp] theorem State.arbiter_lastAccepted (p : PortId) : (s.arbiter p).lastAccepted = s.lastAccepted := by
  obtain ⟨x, w, n, h, _⟩ := s.arbiter_shape p
  rw [h]
  exact s.setPort_lastAccepted p x

@[simp] theorem State.releaseEntry_lastAccepted (p : PortId) (e : OwnEntry) :
    (s.releaseEntry p e).lastAccepted = s.lastAccepted := by
  cases e with
  | arp b => exact s.setPort_lastAccepted p _
  | wrapped i | forwarded i | standIn i | response | notice => rfl

@[simp] theorem State.releaseAbandoned_lastAccepted (p : PortId) (k : TxKind) :
    (s.releaseAbandoned p k).lastAccepted = s.lastAccepted := by
  unfold State.releaseAbandoned
  split
  · exact s.bump_lastAccepted _
  · rfl
  · exact s.releaseEntry_lastAccepted p _

@[simp] theorem State.releaseSent_lastAccepted (p : PortId) (k : TxKind) :
    (s.releaseSent p k).lastAccepted = s.lastAccepted := by
  unfold State.releaseSent
  split
  · exact s.bump_lastAccepted _
  · exact State.bump_lastAccepted _ _
  · exact s.releaseEntry_lastAccepted p _

@[simp] theorem State.offerOwn_lastAccepted (p : PortId) (e : OwnEntry) :
    (s.offerOwn p e).1.lastAccepted = s.lastAccepted := by
  unfold State.offerOwn
  repeat' split
  all_goals simp [State.guardBlocked]

@[simp] theorem State.offerBridge_lastAccepted (p : PortId) (f : Bytes) :
    (s.offerBridge p f).lastAccepted = s.lastAccepted := by
  unfold State.offerBridge
  repeat' split
  all_goals simp [State.guardBlocked]

@[simp] theorem State.linkLost_lastAccepted (p : PortId) : (s.linkLost p).lastAccepted = s.lastAccepted := by
  unfold State.linkLost
  rw [foldl_lastAccepted (by simp), foldl_lastAccepted (by simp)]
  split <;> simp

/-! ## Exchanges and stand-ins (R103, R107, R109, R110) -/

@[simp] theorem State.closeExchange_lastAccepted (i : Fin 128) (n : Nat) :
    (s.closeExchange i n).lastAccepted = s.lastAccepted := by
  obtain ⟨sl, w, v, m, fr, fs, h⟩ := s.closeExchange_shape i n
  rw [h]; rfl

@[simp] theorem State.standIn_lastAccepted (i : Fin 128) (r : Reason) (q : Option Sequence) (port : UdpPort) :
    (s.standIn i r q port).lastAccepted = s.lastAccepted := by
  obtain ⟨st, cs, k, x, fr, fs, sb, d, w, n, h, _⟩ := s.standIn_shape i r q port
  rw [h]; rfl

@[simp] theorem State.closeLost_lastAccepted (i : Fin 128) (x : Exchange) (n : Nat) :
    (s.closeLost i x n).lastAccepted = s.lastAccepted := by
  simp [State.closeLost]

/-! ## The erase (R186) -/

@[simp] theorem State.eraseMessage_lastAccepted : s.eraseMessage.lastAccepted = s.lastAccepted := by
  unfold State.eraseMessage
  repeat' split
  all_goals simp

@[simp] theorem State.eraseAll_lastAccepted : s.eraseAll.lastAccepted = s.lastAccepted := by
  simp only [State.eraseAll, State.arbiter_lastAccepted, State.latch_lastAccepted, State.eraseMessage_lastAccepted]
  rfl

/-! ## Arrivals (R12 to R17, R87 to R101, R166 to R168) -/

@[simp] theorem State.arpArrive_lastAccepted (p : PortId) (f : Bytes) :
    (s.arpArrive p f).lastAccepted = s.lastAccepted := by
  unfold State.arpArrive
  split <;> simp

@[simp] theorem State.openExchange_lastAccepted (c : Capture) (d : Destination) (b : BankId) (k : Fin 64)
    (rest : List (Fin 64)) (f : Bytes) : (s.openExchange c d b k rest f).lastAccepted = s.lastAccepted :=
  State.enterJob_lastAccepted _ _

@[simp] theorem State.admitNew_lastAccepted (cap : RequestCapture) (f : Bytes) (m : Nat) :
    (s.admitNew cap f m).lastAccepted = s.lastAccepted := by
  unfold State.admitNew
  repeat' split
  all_goals simp

@[simp] theorem State.paymentArrive_lastAccepted (f : Bytes) :
    (s.paymentArrive f).lastAccepted = s.lastAccepted := by
  unfold State.paymentArrive State.admission
  repeat' split
  all_goals simp

@[simp] theorem State.acceptReply_lastAccepted (i : Fin 128) (x : Exchange) (k : Fin 64) (rest : List (Fin 64))
    (f : Bytes) : (s.acceptReply i x k rest f).lastAccepted = s.lastAccepted :=
  State.enterJob_lastAccepted _ _

@[simp] theorem State.replyArrive_lastAccepted (f : Bytes) : (s.replyArrive f).lastAccepted = s.lastAccepted := by
  unfold State.replyArrive State.matchReply
  dsimp only
  repeat' split
  all_goals simp [State.lateReply, State.dropMalformed]

/-- R168: the arrival of a message only offers its job, whose result accepts it. -/
@[simp] theorem State.mgmtArrive_lastAccepted (p : PortId) (b : Bool) (f : Bytes) :
    (s.mgmtArrive p b f).lastAccepted = s.lastAccepted := by
  unfold State.mgmtArrive
  dsimp only
  split
  · exact s.bump_lastAccepted _
  · split
    · exact State.offerMgmt_lastAccepted _ _
    · exact s.rejectMessage_lastAccepted

@[simp] theorem State.arrive_lastAccepted (p : PortId) (f : Bytes) :
    (s.arrive p f).lastAccepted = s.lastAccepted := by
  unfold State.arrive State.deliver State.unmatched State.bridgeDecision State.dropMalformed
  repeat' split
  all_goals simp

/-! ## Job results (R69, R70, R93 to R103, R174, R177) -/

/-- The state beside an offer's answer (R160). -/
theorem State.lastAccepted_of_offerOwn {p : PortId} {e : OwnEntry} {t : State} {answer : Offer}
    (h : s.offerOwn p e = (t, answer)) : t.lastAccepted = s.lastAccepted := by
  rw [← s.offerOwn_lastAccepted p e, h]

@[simp] theorem State.sendWrapped_lastAccepted (t : JobTarget) (c : Capture) (d : Destination) (v : WrapValues)
    (x : Exchange) : (s.sendWrapped t c d v x).lastAccepted = s.lastAccepted := by
  unfold State.sendWrapped
  split
  next s1 offered =>
    have kept : s1.lastAccepted = s.lastAccepted :=
      (State.lastAccepted_of_offerOwn _ offered).trans rfl
    simp [State.wrapTaken, kept]
  next s1 offered =>
    have kept : s1.lastAccepted = s.lastAccepted :=
      (State.lastAccepted_of_offerOwn _ offered).trans rfl
    simp [kept]

@[simp] theorem State.wrapDone_lastAccepted (id : Nat) (t : JobTarget) (c : Capture) (d : Destination)
    (v : WrapValues) : (s.wrapDone id t c d v).lastAccepted = s.lastAccepted := by
  unfold State.wrapDone
  repeat' split
  all_goals simp

@[simp] theorem State.verifyDone_lastAccepted (id : Nat) (t : JobTarget) (n : Nat) (pass : Bool) :
    (s.verifyDone id t n pass).lastAccepted = s.lastAccepted := by
  unfold State.verifyDone State.forwardReply State.failReply
  dsimp only
  repeat' split
  all_goals simp
  rfl

@[simp] theorem State.unwrapVerdict_lastAccepted (given : List (Key × CheckValue)) (keys : List Key) (pass : Bool) :
    (s.unwrapVerdict given keys pass).lastAccepted = s.lastAccepted := by
  unfold State.unwrapVerdict State.stageVerdict State.loadVerdict State.commitStage
  repeat' split
  all_goals rfl

@[simp] theorem State.tagResponse_lastAccepted (tag : Bytes) :
    (s.tagResponse tag).lastAccepted = s.lastAccepted := by
  unfold State.tagResponse
  split
  · exact State.offerOwn_lastAccepted _ _ _
  · rfl

end Sys2Proof.Machine
end

section
/-! SUPPORT. The last accepted sequences (R170) under every command: a power-on start, the result of a MGMT_TAG job, and
all others, which keep them. -/

namespace Sys2Proof.Machine

variable (s : State)

/-! ## The rules of the item commands (Chapter 9) -/

@[simp] theorem State.dropStage_lastAccepted : s.dropStage.lastAccepted = s.lastAccepted := by
  rw [State.dropStage_eq]; rfl

@[simp] theorem State.restartItem_lastAccepted (c : Context) (item : Item) :
    (s.restartItem c item).lastAccepted = s.lastAccepted := by
  have answers := foldl_lastAccepted (op := fun (st : State) (i : Item) => st.answer i.kind .notExecuted [])
    (fun _ _ => rfl) ((messageItems s.message).drop c.nextItem) (s.answer item.kind .done [])
  exact (State.completeResponse_lastAccepted _ _).trans answers

theorem State.clearStatuses_lastAccepted (named : Vector Bool 18) :
    (s.clearStatuses named).lastAccepted = s.lastAccepted := by
  simp [State.clearStatuses, State.lastAccepted_eq_iff]

theorem State.clearCounters_lastAccepted : s.clearCounters.lastAccepted = s.lastAccepted := by
  simp [State.clearCounters, State.lastAccepted_eq_iff]

/-- A rule's answer is a refusal, or a state with the sequences of `s`. -/
def RuleKeepsAccepted (s : State) : Except ResultCode State → Prop
  | .ok t => t.lastAccepted = s.lastAccepted
  | .error _ => True

@[simp] theorem ruleKeepsAccepted_ok {t : State} :
    RuleKeepsAccepted s (.ok t) ↔ t.lastAccepted = s.lastAccepted := .rfl

@[simp] theorem ruleKeepsAccepted_error (r : ResultCode) : RuleKeepsAccepted s (.error r) := trivial

/-- A rule that is an effect on an entry read from the body. -/
theorem RuleKeepsAccepted.map {α : Type} {effect : α → State} (x : Except ResultCode α)
    (h : ∀ a, (effect a).lastAccepted = s.lastAccepted) : RuleKeepsAccepted s (x.map effect) := by
  cases x with
  | error r => trivial
  | ok a => exact h a

variable (b : Bytes)

theorem State.writeSettings_keepsAccepted : RuleKeepsAccepted s (s.writeSettings b) := by
  unfold State.writeSettings
  split
  · trivial
  · exact rfl

theorem State.writeTill_keepsAccepted : RuleKeepsAccepted s (s.writeTill b) := by
  unfold State.writeTill
  repeat' split
  all_goals simp

theorem State.clearTill_keepsAccepted : RuleKeepsAccepted s (s.clearTill b) := .map s _ fun _ => by simp

theorem State.writeRule_keepsAccepted : RuleKeepsAccepted s (s.writeRule b) := by
  unfold State.writeRule
  iterate 3 (split; · trivial)
  exact rfl

theorem State.clearRule_keepsAccepted : RuleKeepsAccepted s (s.clearRule b) := .map s _ fun _ => rfl

theorem State.writeLocator_keepsAccepted : RuleKeepsAccepted s (s.writeLocator b) := by
  unfold State.writeLocator
  iterate 3 (split; · trivial)
  exact rfl

theorem State.clearLocator_keepsAccepted : RuleKeepsAccepted s (s.clearLocator b) := by
  unfold State.clearLocator
  iterate 2 (split; · trivial)
  exact rfl

theorem State.writeDestination_keepsAccepted : RuleKeepsAccepted s (s.writeDestination b) := .map s _ fun _ => rfl

theorem State.clearDestination_keepsAccepted : RuleKeepsAccepted s (s.clearDestination b) := .map s _ fun _ => rfl

theorem State.stageOpen_keepsAccepted (c : Context) : RuleKeepsAccepted s (s.stageOpen c b) := by
  unfold State.stageOpen
  iterate 6 (split; · trivial)
  exact rfl

theorem State.switchSlot_keepsAccepted : RuleKeepsAccepted s (s.switchSlot b) := by
  unfold State.switchSlot
  iterate 2 (split; · trivial)
  exact rfl

theorem State.retireSlot_keepsAccepted : RuleKeepsAccepted s (s.retireSlot b) := by
  unfold State.retireSlot
  repeat' split
  all_goals simp

theorem State.discardStage_keepsAccepted : RuleKeepsAccepted s (s.discardStage b) := by
  unfold State.discardStage
  repeat' split
  all_goals simp

theorem State.writeEventMap_keepsAccepted : RuleKeepsAccepted s (s.writeEventMap b) := by
  unfold State.writeEventMap
  iterate 2 (split; · trivial)
  exact rfl

/-! ## Commands that keep the sequences -/

/-- A next state, if `o` is one, has the sequences of `s`. -/
def KeepsAccepted (s : State) : Host.Outcome State Fault Refusal → Prop
  | .next t => t.lastAccepted = s.lastAccepted
  | .fault _ | .refused _ => True

@[simp] theorem keepsAccepted_next {t : State} : KeepsAccepted s (.next t) ↔ t.lastAccepted = s.lastAccepted := .rfl

/-- An item command keeps the sequences where its own rule does (R171). -/
theorem itemEvent_keepsAccepted (start : Bool) (p : Nat → Bool) {act : State → Context → Item → State}
    (h : ∀ c item, (act s c item).lastAccepted = s.lastAccepted) :
    KeepsAccepted s (itemEvent start p act s) := by
  unfold itemEvent
  repeat' split
  all_goals simp [h]

theorem writeItem_keepsAccepted (code : Nat) {rule : State → Bytes → Except ResultCode State}
    (h : ∀ a b, RuleKeepsAccepted a (rule a b)) : KeepsAccepted s (writeItem code rule s) := by
  refine itemEvent_keepsAccepted s false _ fun c item => ?_
  have kept := h s.dropStage item.body
  split
  next t done => simpa [done] using kept
  next => simp

theorem readItem_keepsAccepted (code : Nat) (rule : State → Bytes → Except ResultCode Bytes) :
    KeepsAccepted s (readItem code rule s) := by
  refine itemEvent_keepsAccepted s false _ fun c item => ?_
  split <;> simp

theorem execStageOpen_keepsAccepted : KeepsAccepted s (execStageOpen s) := by
  refine itemEvent_keepsAccepted s false _ fun c item => ?_
  have kept := s.dropStage.stageOpen_keepsAccepted item.body c
  split
  next t done => simpa [done] using kept
  next => simp

theorem execStageKeys_keepsAccepted : KeepsAccepted s (execStageKeys s) := by
  refine itemEvent_keepsAccepted s false _ fun c item => ?_
  split
  · exact State.offerMgmt_lastAccepted _ _
  · simp

theorem execFrameReceived_keepsAccepted (p : PortId) (wire : Bytes) :
    KeepsAccepted s (execFrameReceived p wire s) := by
  unfold execFrameReceived
  repeat' split
  all_goals simp [State.setReceive]

theorem execResponseCompletion_keepsAccepted : KeepsAccepted s (execResponseCompletion s) := by
  unfold execResponseCompletion
  repeat' split
  all_goals simp

theorem execEraseLineAsserted_keepsAccepted : KeepsAccepted s (execEraseLineAsserted s) := by
  unfold execEraseLineAsserted
  split
  · exact rfl
  · exact ((conclude_lastAccepted _ _ _).trans (State.eraseAll_lastAccepted _)).trans rfl

theorem execDeadlineExpiry_keepsAccepted (i : Fin 128) : KeepsAccepted s (execDeadlineExpiry i s) := by
  unfold execDeadlineExpiry
  repeat' split
  all_goals simp

/-- R170: no command but a power-on start and the result of a MGMT_TAG job moves a last accepted sequence. -/
theorem exec_keepsAccepted (c : Instr) (start : c ≠ .powerOnReset) (verdict : c ≠ .mgmtTagResult) :
    KeepsAccepted s (exec c s) := by
  unfold exec
  cases c with
  | powerOnReset => exact absurd rfl start
  | mgmtTagResult => exact absurd rfl verdict
  | uptimeTick | eraseLineDeasserted | batterySupplyLost => exact rfl
  | eraseLineAsserted => exact execEraseLineAsserted_keepsAccepted s
  | deadlineExpiry i => exact execDeadlineExpiry_keepsAccepted s i
  | frameReceived p wire => exact execFrameReceived_keepsAccepted s p wire
  | responseCompletion => exact execResponseCompletion_keepsAccepted s
  | linkUp | linkDown | transmissionComplete | wrapCompletion | verifyCompletion | keyUnwrapResult
  | responseTagResult =>
    dsimp only [execLinkUp, execLinkDown, execTransmissionComplete, execWrapCompletion, execVerifyCompletion,
      execKeyUnwrapResult, execResponseTagResult]
    split <;> simp
  | readSettings | readTill | readRule | readLocator | readDestination | readSlot | readEvents | readCounters =>
    exact readItem_keepsAccepted s _ _
  | writeSettings => exact writeItem_keepsAccepted s _ State.writeSettings_keepsAccepted
  | writeTill => exact writeItem_keepsAccepted s _ State.writeTill_keepsAccepted
  | clearTill => exact writeItem_keepsAccepted s _ State.clearTill_keepsAccepted
  | writeRule => exact writeItem_keepsAccepted s _ State.writeRule_keepsAccepted
  | clearRule => exact writeItem_keepsAccepted s _ State.clearRule_keepsAccepted
  | writeLocator => exact writeItem_keepsAccepted s _ State.writeLocator_keepsAccepted
  | clearLocator => exact writeItem_keepsAccepted s _ State.clearLocator_keepsAccepted
  | writeDestination => exact writeItem_keepsAccepted s _ State.writeDestination_keepsAccepted
  | clearDestination => exact writeItem_keepsAccepted s _ State.clearDestination_keepsAccepted
  | switch => exact writeItem_keepsAccepted s _ State.switchSlot_keepsAccepted
  | retire => exact writeItem_keepsAccepted s _ State.retireSlot_keepsAccepted
  | discardStage => exact writeItem_keepsAccepted s _ State.discardStage_keepsAccepted
  | writeEventMap => exact writeItem_keepsAccepted s _ State.writeEventMap_keepsAccepted
  | writeEventEnables => exact writeItem_keepsAccepted s 23 fun _ _ => by simp [State.lastAccepted_eq_iff]
  | clearEvents => exact writeItem_keepsAccepted s 24 fun a _ => a.clearStatuses_lastAccepted _
  | clearCounters => exact writeItem_keepsAccepted s 26 fun a _ => a.clearCounters_lastAccepted
  | stageOpen => exact execStageOpen_keepsAccepted s
  | stageKeys => exact execStageKeys_keepsAccepted s
  | loadMgmtKeys | restart | erase | unknownItemKind => exact itemEvent_keepsAccepted s _ _ fun _ _ => by simp

/-! ## A power-on start (R2) -/

/-- A warm start keeps both sequences, a cold start sets them to 0; an erase at its end moves neither. -/
theorem execPowerOnReset_lastAccepted :
    ∃ t, execPowerOnReset s = .next t ∧
      t.lastAccepted = if s.storeValid then s.lastAccepted else fun _ => 0 := by
  refine ⟨_, rfl, ?_⟩
  have started : s.powerStart.lastAccepted = if s.storeValid then s.lastAccepted else fun _ => 0 := by
    unfold State.powerStart
    split
    · rfl
    · exact funext fun o => by cases o <;> rfl
  rw [conclude_lastAccepted, ← started]
  split
  · exact State.eraseAll_lastAccepted _
  · rfl

/-! ## The result of a MGMT_TAG job (R169) -/

/-- The one management result at hand stands on a lane. -/
theorem State.mgmtResult_some {α : Type} {r : Running → Option α} {l : Fin 4} {a : α}
    (h : s.mgmtResult r = some (l, a)) : ∃ job, s.lanes[l] = some job ∧ r job = some a := by
  obtain ⟨i, _, found⟩ := List.exists_of_findSome?_eq_some h
  cases lane : s.lanes[i] with
  | none => simp [lane] at found
  | some job =>
    obtain ⟨b, result, same⟩ : ∃ b, r job = some b ∧ (i, b) = (l, a) := by simpa [lane] using found
    cases same
    exact ⟨job, lane, result⟩

theorem Running.mgmtTagResult_eq_some {job : Running} {pass : Bool} (h : job.mgmtTagResult = some pass) :
    ∃ id key, job = .mgmtTag id key pass := by
  cases job with
  | mgmtTag id key p => exact ⟨id, key, by rw [Option.some.inj h]⟩
  | wrap | verify | keyUnwrap | responseTag => cases h

/-- R169: an acceptance sets the sequence of the message's own origin. -/
theorem State.acceptMessage_lastAccepted (c : Context) :
    (s.acceptMessage c).lastAccepted = Function.update s.lastAccepted c.origin (messageSequence s.message) := by
  rw [State.acceptMessage, State.bump_lastAccepted]
  funext o
  cases horigin : c.origin <;> cases o <;> rfl

theorem State.acceptMessage_mgu (c : Context) : (s.acceptMessage c).mgu = .executing := by
  rw [State.acceptMessage, State.bump_eq]

/-- R169: the message of context `x` is authenticated and its sequence is greater than its origin's last; `t` has
accepted it. -/
structure AcceptsMessage (s t : State) (x : Context) : Prop where
  authenticating : s.mgu = .authenticating
  context : s.context = some x
  greater : s.lastAccepted x.origin < messageSequence s.message
  executing : t.mgu = .executing
  accepted : t.lastAccepted = Function.update s.lastAccepted x.origin (messageSequence s.message)

/-- The verdict keeps the sequences, or the tag passed and the message is accepted. -/
theorem State.tagVerdict_cases (pass : Bool) :
    (s.tagVerdict pass).lastAccepted = s.lastAccepted ∨
      (pass = true ∧ ∃ x, AcceptsMessage s (s.tagVerdict pass) x) := by
  unfold State.tagVerdict
  split
  next x authenticating context =>
    split
    next accepted =>
      obtain ⟨passed, greater⟩ := accepted
      exact .inr ⟨passed, x, authenticating, context, greater, s.acceptMessage_mgu x,
        s.acceptMessage_lastAccepted x⟩
    next => exact .inl s.rejectMessage_lastAccepted
  next => exact .inl rfl

/-- R169, over the whole event: a MGMT_TAG job's result keeps the sequences, or the job passed and its message is
accepted. -/
theorem execMgmtTagResult_cases {t : State} (h : execMgmtTagResult s = .next t) :
    t.lastAccepted = s.lastAccepted ∨
      ∃ (l : Fin 4) (id : Nat) (key : Key) (x : Context), s.lanes[l] = some (.mgmtTag id key true) ∧
        AcceptsMessage s t x := by
  unfold execMgmtTagResult at h
  split at h
  next => cases h; exact .inl rfl
  next l pass result =>
    cases h
    obtain ⟨job, lane, passes⟩ := s.mgmtResult_some result
    obtain ⟨id, key, rfl⟩ := Running.mgmtTagResult_eq_some passes
    obtain ⟨w, v, m, finished⟩ := s.finishLane_shape l
    rw [finished]
    rcases State.tagVerdict_cases { s with waiting := w, lanes := v, mgmtWaiting := m } pass with
      kept | ⟨rfl, x, authenticating, context, greater, executing, accepted⟩
    · exact .inl ((conclude_lastAccepted _ _ _).trans kept)
    · exact .inr ⟨l, id, key, x, lane, authenticating, context, greater, (conclude_mgu _ _ _).trans executing,
        (conclude_lastAccepted _ _ _).trans accepted⟩

/-! ## The range of a sequence (R170) -/

theorem beNat_lt (bs : Bytes) : beNat bs < 256 ^ bs.length := by
  induction bs using List.reverseRecOn with
  | nil => decide
  | append_singleton bs b ih =>
    have digit := b.isLt
    have step : beNat (bs ++ [b]) = beNat bs * 256 + b.toNat := by simp [beNat]
    rw [step, List.length_append, List.length_singleton, Nat.pow_succ]
    omega

theorem fieldNat_lt (bs : Bytes) (o w : Nat) : fieldNat bs o w < 256 ^ w :=
  (beNat_lt _).trans_le (Nat.pow_le_pow_right (by decide) (List.length_take_le _ _))

theorem messageSequence_le (m : Bytes) : messageSequence m ≤ 4294967295 :=
  Nat.le_of_lt_succ (fieldNat_lt m 11 4)

/-- R170: a sequence in range is in range after every command. -/
theorem exec_lastAccepted_le {c : Instr} {t : State} (h : exec c s = .next t) (o : Origin)
    (range : s.lastAccepted o ≤ 4294967295) : t.lastAccepted o ≤ 4294967295 := by
  by_cases start : c = .powerOnReset
  case pos =>
    subst start
    obtain ⟨u, hu, sequences⟩ := execPowerOnReset_lastAccepted s
    cases h.symm.trans hu
    rw [sequences]
    split
    · exact range
    · exact Nat.zero_le _
  by_cases verdict : c = .mgmtTagResult
  case pos =>
    subst verdict
    rcases execMgmtTagResult_cases s h with kept | ⟨_, _, _, x, _, acceptance⟩
    · rwa [kept]
    · rw [acceptance.accepted, Function.update_apply]
      split
      · exact messageSequence_le _
      · exact range
  have kept := exec_keepsAccepted s c start verdict
  rw [h, keepsAccepted_next] at kept
  rwa [kept]

end Sys2Proof.Machine
end

section
/-! R170: how the last accepted sequences move. -/

open Sys2Proof Sys2Proof.Machine

/-- Settles O4: a power-on start and an acceptance give the sequences their own values, every other command keeps them,
and an accepted sequence is a 4-byte field. -/
theorem sequencesMoveByAcceptanceAndColdStart : Obligations.SequencesMoveByAcceptanceAndColdStart := by
  intro c s t h
  refine ⟨?cold, ?warm, ?verdict, ?other, exec_lastAccepted_le s h .remote, exec_lastAccepted_le s h .store⟩
  case cold =>
    rintro rfl invalid
    obtain ⟨u, hu, sequences⟩ := execPowerOnReset_lastAccepted s
    cases h.symm.trans hu
    rw [invalid] at sequences
    exact ⟨congrFun sequences .remote, congrFun sequences .store⟩
  case warm =>
    rintro rfl valid
    obtain ⟨u, hu, sequences⟩ := execPowerOnReset_lastAccepted s
    cases h.symm.trans hu
    rw [valid] at sequences
    exact State.lastAccepted_eq_iff.mp sequences
  case verdict =>
    rintro rfl
    rcases execMgmtTagResult_cases s h with kept | ⟨l, id, key, x, lane, acceptance⟩
    · exact .inl (State.lastAccepted_eq_iff.mp kept)
    obtain ⟨authenticating, context, greater, executing, accepted⟩ := acceptance
    refine .inr ⟨l, id, key, x, lane, authenticating, context, executing, messageSequence_le _, ?_⟩
    have remote := congrFun accepted .remote
    have store := congrFun accepted .store
    cases origin : x.origin <;> rw [origin] at greater remote store
    case remote => exact .inl ⟨rfl, greater, remote, store⟩
    case store => exact .inr ⟨rfl, greater, store, remote⟩
  case other =>
    intro start verdict
    have kept := exec_keepsAccepted s c start verdict
    rw [h, keepsAccepted_next] at kept
    exact State.lastAccepted_eq_iff.mp kept
end

section
/-! SUPPORT. What every command keeps, said once for any predicate of the state. A predicate that the operations below
keep, each in the situations in which commands carry it out, is kept by every command; so each law of the machine is
proved operation by operation, and no law's proof walks through the commands again. -/

namespace Sys2Proof.Machine

/-! ## The operations -/

/-- `b` is `a` but for fields that no law of the tables, the ports, the stores or the engine reads: the pins and the
clock, the statuses and counters, and what MGU holds of a message. -/
def State.Aside (a b : State) : Prop :=
  b = { a with
    pending := b.pending, storeValid := b.storeValid, eraseLine := b.eraseLine, uptime := b.uptime
    load := b.load, ident := b.ident, message := b.message, response := b.response, context := b.context
    lastRemote := b.lastRemote, lastLocal := b.lastLocal, status := b.status, enables := b.enables
    counters := b.counters }

/-- The state with every running countdown a millisecond lower (R85). -/
def State.tickTills (s : State) : State :=
  { s with tills := s.tills.map fun t => { t with exchange := t.exchange.map Exchange.tick } }

/-- The result of the payment job `r` for target `t` is nobody's: the exchange of its till names another job (R96, R102). -/
def State.Detached (s : State) (r : Running) (t : JobTarget) : Prop :=
  r.wraps = some t ∧ (∀ x, s.tills[t.till].exchange = some x → x.wrapJob ≠ some r.id) ∨
    r.verifies = some t ∧ ∀ x, s.tills[t.till].exchange = some x → x.verifyJob ≠ some r.id

/-- `P` is kept by the operations of arrivals, job results, expiries and notices. -/
structure Ordinary (P : State → Prop) : Prop where
  aside : ∀ {a b : State}, P a → a.Aside b → P b
  receive : ∀ {a : State} (p : PortId) (f : Option Bytes), P a → P (a.setReceive p f)
  mgu : ∀ {a : State} {m : MguState}, P a → a.mgu ≠ .answering → m ≠ .answering → P { a with mgu := m }
  offerMgmt : ∀ {a : State} {w : JobWork}, P a → w.frame = none → P (a.offerMgmt w)
  arpArrive : ∀ {a : State} (p : PortId) (f : Bytes), P a → P (a.arpArrive p f)
  offerBridge : ∀ {a : State} (p : PortId) (f : Bytes), P a → P (a.offerBridge p f)
  standIn : ∀ {a : State} {i : Fin 128} (r : Reason) (q : Option Sequence) (port : UdpPort), P a →
    a.tills[i].valid = true → P (a.standIn i r q port)
  acceptReply : ∀ {a : State} {i : Fin 128} {x : Exchange} {k : Fin 64} {rest : List (Fin 64)} (f : Bytes), P a →
    a.tills[i].valid = true → a.tills[i].exchange = some x → x.phase = .awaiting → a.freeSlots = k :: rest →
    a.occupied < Config.queueEntries → P (a.acceptReply i x k rest f)
  close : ∀ {a : State} (i : Fin 128), P a → P (a.closeExchange i 0)
  lost : ∀ {a : State} {i : Fin 128} {x : Exchange}, P a → a.tills[i].exchange = some x → P (a.closeLost i x 0)
  expired : ∀ {a : State} {i : Fin 128} {x : Exchange}, P a → a.tills[i].exchange = some x →
    P (a.setExchange i (some { x with expiredWhileVerifying := true }))
  tick : ∀ {a : State}, P a → P a.tickTills
  finishMgmt : ∀ {a : State} {l : Fin 4} {r : Running}, P a → a.lanes[l] = some r → r.frame = none →
    P (a.finishLane l)
  discard : ∀ {a : State} {l : Fin 4} {r : Running} {t : JobTarget}, P a → a.lanes[l] = some r → a.Detached r t →
    P ((a.finishLane l).discardJob t)
  sendWrapped : ∀ {a : State} {l : Fin 4} {id : Nat} {t : JobTarget} {c : Capture} {d : Destination} {v : WrapValues}
    {x : Exchange}, P a → a.lanes[l] = some (.wrap id t c d v) → a.tills[t.till].exchange = some x →
    x.wrapJob = some id → P ((a.finishLane l).sendWrapped t c d v x)
  forwardReply : ∀ {a : State} {l : Fin 4} {id : Nat} {t : JobTarget} {trailer : Bytes} {n : Nat} {v : VerifyValues}
    {x : Exchange}, P a → a.lanes[l] = some (.verify id t trailer n v) → a.tills[t.till].exchange = some x →
    x.verifyJob = some id → P ((a.finishLane l).forwardReply t n x)
  failReply : ∀ {a : State} {l : Fin 4} {id : Nat} {t : JobTarget} {trailer : Bytes} {n : Nat} {v : VerifyValues}
    {x : Exchange}, P a → a.lanes[l] = some (.verify id t trailer n v) → a.tills[t.till].exchange = some x →
    x.verifyJob = some id → P ((a.finishLane l).failReply t x)
  askNotice : ∀ {a : State}, P a → P a.askNotice
  linkUp : ∀ {a : State} {p : PortId}, P a → (a.port p).link = .down →
    P ((a.setPort p { a.port p with link := .up }).arbiter p)

/-- `P` is kept by the rules of the items that write a table or a setting, or zero the counts. -/
structure ItemRules (P : State → Prop) : Prop where
  writeSettings : ∀ {a t : State} {b : Bytes}, P a → a.writeSettings b = .ok t → P t
  writeTill : ∀ {a t : State} {b : Bytes}, P a → a.writeTill b = .ok t → P t
  clearTill : ∀ {a t : State} {b : Bytes}, P a → a.clearTill b = .ok t → P t
  writeRule : ∀ {a t : State} {b : Bytes}, P a → a.writeRule b = .ok t → P t
  clearRule : ∀ {a t : State} {b : Bytes}, P a → a.clearRule b = .ok t → P t
  writeLocator : ∀ {a t : State} {b : Bytes}, P a → a.writeLocator b = .ok t → P t
  clearLocator : ∀ {a t : State} {b : Bytes}, P a → a.clearLocator b = .ok t → P t
  writeDestination : ∀ {a t : State} {b : Bytes}, P a → a.writeDestination b = .ok t → P t
  clearDestination : ∀ {a t : State} {b : Bytes}, P a → a.clearDestination b = .ok t → P t
  discardStage : ∀ {a t : State} {b : Bytes}, P a → a.discardStage b = .ok t → P t
  writeEventMap : ∀ {a t : State} {b : Bytes}, P a → a.writeEventMap b = .ok t → P t
  clearCounters : ∀ {a : State}, P a → P a.clearCounters

/-- `P` is kept where a stage is committed (R70). -/
def Commits (P : State → Prop) : Prop :=
  ∀ {a : State} (i : Fin 16) (g : Byte) (code : Fin 8) (keys : List Key) (given : List (Key × CheckValue)), P a →
    P (a.commitStage i (stagedBank g code keys given))

/-- `P` is kept where a bank is charged, filled or given up: an admission, a commit, SWITCH and RETIRE. -/
structure BankRules (P : State → Prop) : Prop where
  openExchange : ∀ {a : State} {c : Capture} (d : Destination) {b : BankId} {k : Fin 64} {rest : List (Fin 64)}
    (f : Bytes), P a → a.tills[c.till].valid = true → a.tills[c.till].exchange = none →
    keyTest a.slots[(a.tills[c.till]).slot] = .ok b → a.freeSlots = k :: rest →
    a.occupied < Config.queueEntries → P (a.openExchange c d b k rest f)
  commitStage : Commits P
  switchSlot : ∀ {a t : State} {b : Bytes}, P a → a.switchSlot b = .ok t → P t
  retireSlot : ∀ {a t : State} {b : Bytes}, P a → a.retireSlot b = .ok t → P t

/-- `P` is kept where a response can end, and by a restart. -/
structure ResponseEnds (P : State → Prop) : Prop where
  linkLost : ∀ {a : State} {p : PortId}, P a → (a.port p).link = .up → P (a.linkLost p)
  sent : ∀ {a : State} {p : PortId} {w : Sending}, P a → (a.port p).sending = some w →
    P (((a.setPort p { a.port p with sending := none }).releaseSent p w.kind).arbiter p)
  sendResponse : ∀ {a : State} {c : Context} (tag : Bytes), P a → a.mgu = .tagging → P (a.sendResponse c tag)
  loseWork : ∀ {a : State}, P a → P a.loseWork

/-- `P` is kept by the starts and the erase. -/
structure Starts (P : State → Prop) : Prop where
  warmStart : ∀ {a : State}, P a → P a.warmStart
  coldStart : ∀ {a : State}, P a → P a.coldStart
  eraseAll : ∀ {a : State}, P a → P a.eraseAll

/-- The commands that can charge, fill or give up a bank. -/
def movesBanks : Instr → Bool
  | .frameReceived .T _ | .keyUnwrapResult | .switch | .retire => true
  | _ => false

/-- The commands in whose event a response can end. -/
def endsResponse : Instr → Bool
  | .linkDown _ | .transmissionComplete _ | .responseTagResult => true
  | _ => false

/-- The commands that are a start or an erase. -/
def starts : Instr → Bool
  | .powerOnReset | .eraseLineAsserted | .erase => true
  | _ => false

variable {P : State → Prop} {s t : State}

/-! ## Statuses, counters and the end of an event -/

theorem State.Aside.latch (s : State) (e : EventSource) : s.Aside (s.latch e) := rfl

theorem State.Aside.bump (s : State) (c : Counter) : s.Aside (s.bump c) := by
  rw [State.bump_eq]; rfl

theorem State.Aside.answer (s : State) (kind : Byte) (r : ResultCode) (body : Bytes) :
    s.Aside (s.answer kind r body) := rfl

theorem State.Aside.answered (s : State) (c : Context) (kind : Byte) (r : ResultCode) (body : Bytes) :
    s.Aside (s.answered c kind r body) := rfl

theorem State.Aside.clearStatuses (s : State) (named : Vector Bool 18) : s.Aside (s.clearStatuses named) := by
  unfold State.Aside State.clearStatuses
  rfl

theorem State.Aside.dropStage (s : State) : s.Aside s.dropStage := by
  rw [State.dropStage_eq]; rfl

namespace Ordinary

variable (O : Ordinary P)
include O

theorem latch (e : EventSource) (h : P s) : P (s.latch e) := O.aside h (.latch s e)

theorem bump (c : Counter) (h : P s) : P (s.bump c) := O.aside h (.bump s c)

theorem answer (kind : Byte) (r : ResultCode) (body : Bytes) (h : P s) : P (s.answer kind r body) :=
  O.aside h (.answer s kind r body)

theorem dropStage (h : P s) : P s.dropStage := O.aside h (.dropStage s)

theorem askNotices (n : Nat) (h : P s) : P (askNotices n s) := by
  induction n generalizing s with
  | zero => exact h
  | succ n ih =>
    unfold Machine.askNotices
    split
    · exact ih (O.askNotice h)
    · exact O.askNotice h

theorem conclude (start : Bool) (before : State) (h : P s) : P (conclude start before s) := by
  have levels : P s.evalLevels := O.aside h rfl
  unfold Machine.conclude
  split
  · exact O.askNotices 3 levels
  · exact levels

/-! ## Arrivals -/

theorem dropMalformed (h : P s) : P s.dropMalformed := O.bump _ (O.latch _ h)

theorem lateReply (h : P s) : P s.lateReply := O.bump _ (O.latch _ h)

theorem rejectMessage (working : s.mgu ≠ .answering) (h : P s) : P s.rejectMessage := by
  have idle : P { s with mgu := .idle, message := [], context := none } :=
    O.aside (O.mgu (m := .idle) h working (by decide)) rfl
  exact O.bump _ (O.latch _ idle)

theorem bridgeDecision (p : PortId) (f : Bytes) (h : P s) : P (s.bridgeDecision p f) := by
  unfold State.bridgeDecision
  split
  · exact O.bump _ h
  · exact O.offerBridge _ _ h

theorem matchReply {i : Fin 128} (f : Bytes) (h : P s) (valid : s.tills[i].valid = true) :
    P (s.matchReply i f) := by
  unfold State.matchReply
  split
  · exact O.lateReply h
  next x open_ =>
    split
    · exact O.lateReply h
    · exact O.bump _ h
    next awaiting =>
      split
      · split
        · exact O.bump _ h
        next free =>
          split
          next room => exact O.acceptReply f h valid open_ awaiting free room
          · exact O.bump _ h
      · exact O.lateReply h

theorem replyArrive (f : Bytes) (h : P s) : P (s.replyArrive f) := by
  unfold State.replyArrive
  dsimp only
  split
  · split
    · exact O.lateReply h
    next found =>
      have matched := State.findTill_some found
      simp only [Bool.and_eq_true] at matched
      exact O.matchReply f h matched.1.1
  · exact O.dropMalformed h

theorem mgmtArrive (p : PortId) (b : Bool) (f : Bytes) (h : P s) : P (s.mgmtArrive p b f) := by
  unfold State.mgmtArrive
  dsimp only
  split
  · exact O.bump _ h
  next idle =>
    have idle : s.mgu ≠ .answering := by
      intro answering
      simp [answering] at idle
    split
    · exact O.offerMgmt (O.aside (O.mgu (m := .authenticating) h idle (by decide)) rfl) rfl
    · exact O.rejectMessage idle h

theorem unmatched (p : PortId) (f : Bytes) (h : P s) : P (s.unmatched p f) := by
  unfold State.unmatched
  split
  · exact O.bump _ h
  · exact O.dropMalformed h

end Ordinary

/-- What an admission of `cap` on `s` answers where its tests leave it: an exchange opened on a state that keeps `P`. -/
def Opens (P : State → Prop) (t : State) : Prop :=
  ∃ (a : State) (c : Capture) (d : Destination) (b : BankId) (k : Fin 64) (rest : List (Fin 64)) (f : Bytes),
    P a ∧ a.tills[c.till].valid = true ∧ a.tills[c.till].exchange = none ∧
      keyTest a.slots[(a.tills[c.till]).slot] = .ok b ∧ a.freeSlots = k :: rest ∧
      a.occupied < Config.queueEntries ∧ t = a.openExchange c d b k rest f

theorem BankRules.opens (B : BankRules P) (h : Opens P t) : P t := by
  obtain ⟨a, c, d, b, k, rest, f, kept, valid, closed, key, free, room, rfl⟩ := h
  exact B.openExchange d f kept valid closed key free room

namespace Ordinary

variable (O : Ordinary P)
include O

theorem admitNew {cap : RequestCapture} (f : Bytes) (m : Nat) (h : P s) (valid : s.tills[cap.till].valid = true)
    (closed : s.tills[cap.till].exchange = none) : P (s.admitNew cap f m) ∨ Opens P (s.admitNew cap f m) := by
  unfold State.admitNew
  split
  · exact .inl (O.standIn _ _ _ h valid)
  next c =>
    split
    · exact .inl (O.standIn _ _ _ h valid)
    · split
      · exact .inl (O.standIn _ _ _ h valid)
      · split
        · exact .inl (O.standIn _ _ _ h valid)
        next key =>
          split
          · exact .inl (O.standIn _ _ _ h valid)
          next free =>
            split
            next room => exact .inr ⟨s, c, _, _, _, _, f, h, valid, closed, key, free, room, rfl⟩
            · exact .inl (O.standIn _ _ _ h valid)

theorem admission {cap : RequestCapture} (f : Bytes) (m : Nat) (h : P s)
    (valid : s.tills[cap.till].valid = true) : P (s.admission cap f m) ∨ Opens P (s.admission cap f m) := by
  unfold State.admission
  split
  next closed => exact O.admitNew f m h valid closed
  · split
    · exact .inl (O.bump _ h)
    · have entry : ((s.closeExchange cap.till 0).bump .superseded).tills[cap.till] =
          { s.tills[cap.till] with exchange := none } := by
        obtain ⟨sl, w, v, m, fr, fs, closes⟩ := s.closeExchange_shape cap.till 0
        rw [State.bump_tills, closes]
        simp
      refine O.admitNew f m (O.bump _ (O.close _ h)) ?_ ?_ <;> rw [entry]
      exact valid

theorem paymentArrive (f : Bytes) (h : P s) : P (s.paymentArrive f) ∨ Opens P (s.paymentArrive f) := by
  unfold State.paymentArrive
  split
  · exact .inl (O.bump _ (O.latch _ h))
  next found =>
    have matched := State.findTill_some found
    simp only [Bool.and_eq_true] at matched
    split
    · exact .inl (O.bump _ (O.latch _ h))
    · refine O.admission f _ (O.bump _ h) ?_
      simpa using matched.1

/-- An arrival keeps `P`, or opens an exchange on port T. -/
theorem arrive (p : PortId) (f : Bytes) (h : P s) :
    P (s.arrive p f) ∨ p = .T ∧ Opens P (s.arrive p f) := by
  unfold State.arrive
  split
  · exact .inl (O.arpArrive _ _ h)
  · split
    · split
      · unfold State.deliver
        split
        · exact .inl (O.dropMalformed h)
        · split
          · exact .inl (O.mgmtArrive _ _ _ h)
          · cases p with
            | T =>
              dsimp only
              split
              · split
                · exact (O.paymentArrive f h).imp_right fun opens => ⟨rfl, opens⟩
                · exact .inl (O.bridgeDecision _ _ h)
              · exact .inl (O.unmatched _ _ h)
            | L =>
              dsimp only
              split
              · exact .inl (O.replyArrive f h)
              · exact .inl (O.unmatched _ _ h)
      · exact .inl (O.dropMalformed h)
    · split
      · exact .inl (O.bump _ h)
      · exact .inl (O.bridgeDecision _ _ h)

/-- A received frame keeps `P`, or opens an exchange on port T and ends the event. -/
theorem frameReceived {p : PortId} {wire : Bytes} (h : P s) (e : execFrameReceived p wire s = .next t) :
    P t ∨ p = .T ∧ ∃ u, Opens P u ∧ t = Machine.conclude false s u := by
  unfold execFrameReceived at e
  split at e
  · cases e; exact .inl h
  · split at e
    next accepts =>
      cases e
      rw [State.setReceive_arrive, State.setReceive_setReceive, ← State.setReceive_arrive]
      rcases O.arrive p (wire.take (wire.length - 4)) (O.receive p none h) with kept | ⟨port, opens⟩
      · exact .inl (O.conclude _ _ kept)
      · exact .inr ⟨port, _, opens, rfl⟩
    · cases e
      exact .inl (O.conclude _ _ (O.bump _ h))

/-! ## Job results -/

theorem wrapCompletion {l : Fin 4} (h : P s) (e : execWrapCompletion l s = .next t) : P t := by
  unfold execWrapCompletion at e
  split at e
  next id g c d v running =>
    cases e
    refine O.conclude _ _ ?_
    have tills : (s.finishLane l).tills = s.tills := by
      obtain ⟨w, v, m, finishes⟩ := s.finishLane_shape l
      rw [finishes]
    unfold State.wrapDone
    rw [tills]
    split
    next closed => exact O.discard h running (.inl ⟨rfl, fun x open_ => by cases closed.symm.trans open_⟩)
    next x open_ =>
      split
      next current => exact O.sendWrapped h running open_ current
      next other =>
        refine O.discard h running (.inl ⟨rfl, fun y same => ?_⟩)
        cases open_.symm.trans same
        exact other
  all_goals cases e; exact h

theorem verifyCompletion {l : Fin 4} (h : P s) (e : execVerifyCompletion l s = .next t) : P t := by
  unfold execVerifyCompletion at e
  split at e
  next id g trailer n v running =>
    cases e
    refine O.conclude _ _ ?_
    have tills : (s.finishLane l).tills = s.tills := by
      obtain ⟨w, v, m, finishes⟩ := s.finishLane_shape l
      rw [finishes]
    unfold State.verifyDone
    rw [tills]
    split
    next closed => exact O.discard h running (.inr ⟨rfl, fun x open_ => by cases closed.symm.trans open_⟩)
    next x open_ =>
      split
      next current =>
        split
        · exact O.forwardReply h running open_ current
        · exact O.failReply h running open_ current
      next other =>
        refine O.discard h running (.inr ⟨rfl, fun y same => ?_⟩)
        cases open_.symm.trans same
        exact other
  all_goals cases e; exact h

theorem tagVerdict (pass : Bool) (h : P s) : P (s.tagVerdict pass) := by
  unfold State.tagVerdict
  split
  next authenticating _ =>
    have working : s.mgu ≠ .answering := by rw [authenticating]; decide
    split
    · refine O.bump _ (O.aside (O.mgu (m := .executing) h working (by decide)) ?_)
      unfold State.setLastAccepted
      split <;> rfl
    · exact O.rejectMessage working h
  · exact h

theorem mgmtTagResult (h : P s) (e : execMgmtTagResult s = .next t) : P t := by
  unfold execMgmtTagResult at e
  split at e
  · cases e; exact h
  next lane pass found =>
    cases e
    obtain ⟨r, running, result⟩ := State.mgmtResult_some s found
    refine O.conclude _ _ (O.tagVerdict pass (O.finishMgmt h running ?_))
    cases r <;> simp_all [Running.mgmtTagResult, Running.frame]

theorem loadVerdict (kind : Byte) (keys : List Key) (pass : Bool) (h : P s) : P (s.loadVerdict kind keys pass) := by
  unfold State.loadVerdict
  split
  · exact O.answer _ _ _ (O.aside h rfl)
  · exact O.answer _ _ _ h

theorem stageVerdict (commit : Commits P) (kind : Byte) (given : List (Key × CheckValue)) (keys : List Key) (pass : Bool)
    (h : P s) : P (s.stageVerdict kind given keys pass) := by
  unfold State.stageVerdict
  split
  · split
    · exact O.answer _ _ _ (commit _ _ _ _ _ h)
    · exact O.answer _ _ _ (O.aside h rfl)
  all_goals exact O.answer _ _ _ h

theorem keyUnwrapResult (commit : Commits P) (h : P s) (e : execKeyUnwrapResult s = .next t) : P t := by
  unfold execKeyUnwrapResult at e
  split at e
  · cases e; exact h
  next lane given keys pass found =>
    cases e
    obtain ⟨r, running, result⟩ := State.mgmtResult_some s found
    have finished : P (s.finishLane lane) := by
      refine O.finishMgmt h running ?_
      cases r <;> simp_all [Running.unwrapResult, Running.frame]
    refine O.conclude _ _ ?_
    unfold State.unwrapVerdict
    split
    · exact finished
    · split
      · exact O.stageVerdict commit _ _ _ _ finished
      · exact O.loadVerdict _ _ _ finished

theorem completeResponse (key : Key) (h : P s) (working : s.mgu ≠ .answering) : P (s.completeResponse key) :=
  O.offerMgmt (O.mgu h working (by decide)) rfl

theorem responseCompletion (h : P s) (e : execResponseCompletion s = .next t) : P t := by
  unfold execResponseCompletion at e
  split at e
  next executing _ =>
    split at e
    · cases e
      exact O.conclude _ _ (O.completeResponse _ h (by rw [executing]; decide))
    · cases e; exact h
  · cases e; exact h

theorem concludeResponse (E : ResponseEnds P) (before : State) (h : P s) : P (concludeResponse before s) := by
  unfold Machine.concludeResponse
  split
  · exact O.conclude _ _ (E.loseWork h)
  · exact O.conclude _ _ h

theorem responseTagResult (E : ResponseEnds P) (h : P s) (e : execResponseTagResult s = .next t) : P t := by
  unfold execResponseTagResult at e
  split at e
  · cases e; exact h
  next lane tag found =>
    cases e
    obtain ⟨r, running, result⟩ := State.mgmtResult_some s found
    have finished : P (s.finishLane lane) := by
      refine O.finishMgmt h running ?_
      cases r <;> simp_all [Running.responseTagResult, Running.frame]
    refine O.concludeResponse E _ ?_
    unfold State.tagResponse
    split
    next tagging _ => exact E.sendResponse tag finished tagging
    · exact finished

/-! ## The ports and the clock -/

theorem linkUp_next {p : PortId} (h : P s) (e : execLinkUp p s = .next t) : P t := by
  unfold execLinkUp at e
  split at e
  · cases e; exact h
  next down =>
    cases e
    refine O.conclude _ _ (O.linkUp h ?_)
    cases link : (s.port p).link
    · exact absurd link down
    · rfl

theorem linkDown (E : ResponseEnds P) {p : PortId} (h : P s) (e : execLinkDown p s = .next t) : P t := by
  unfold execLinkDown at e
  split at e
  · cases e; exact h
  next up =>
    cases e
    refine O.concludeResponse E _ (E.linkLost h ?_)
    cases link : (s.port p).link
    · rfl
    · exact absurd link up

theorem transmissionComplete (E : ResponseEnds P) {p : PortId} (h : P s)
    (e : execTransmissionComplete p s = .next t) : P t := by
  unfold execTransmissionComplete at e
  split at e
  · cases e; exact h
  next w sending =>
    cases e
    exact O.concludeResponse E _ (E.sent h sending)

theorem deadlineExpiry {i : Fin 128} (h : P s) (e : execDeadlineExpiry i s = .next t) : P t := by
  unfold execDeadlineExpiry at e
  split at e
  · cases e; exact h
  next x open_ =>
    split at e
    · cases e; exact h
    · split at e <;> cases e
      · exact O.conclude _ _ (O.lost h open_)
      · exact O.conclude _ _ (O.lost h open_)
      · exact O.expired h open_

theorem uptimeTick (h : P s) (e : execUptimeTick s = .next t) : P t := by
  cases e
  exact O.aside (O.tick h) rfl

/-! ## Items -/

theorem itemEvent {start : Bool} {p : Nat → Bool} {act : State → Context → Item → State} (h : P s)
    (rule : ∀ c item, s.InHand c item → P (act s c item)) (e : itemEvent start p act s = .next t) : P t := by
  rcases itemEvent_cases start p act s with ⟨_, n⟩ | ⟨c, item, hand, _, ⟨r, _, n⟩ | ⟨_, n⟩⟩ <;>
    cases n.symm.trans e
  · exact h
  · exact O.conclude _ _ (O.aside h (.answered s c _ r _))
  · exact O.conclude _ _ (rule c item hand)

theorem writeItem {code : Nat} {rule : State → Bytes → Except ResultCode State} (h : P s)
    (kept : ∀ {a u : State} {b : Bytes}, P a → rule a b = .ok u → P u) (e : writeItem code rule s = .next t) :
    P t := by
  refine O.itemEvent h (fun c item _ => ?_) e
  split
  next u done => exact O.answer _ _ _ (kept (O.dropStage h) done)
  · exact O.answer _ _ _ (O.dropStage h)

theorem readItem {code : Nat} {rule : State → Bytes → Except ResultCode Bytes} (h : P s)
    (e : readItem code rule s = .next t) : P t := by
  refine O.itemEvent h (fun c item _ => ?_) e
  split
  · unfold State.answerRead
    dsimp only
    split <;> exact O.answer _ _ _ (O.dropStage h)
  · exact O.answer _ _ _ (O.dropStage h)

theorem stageOpen (h : P s) (e : execStageOpen s = .next t) : P t := by
  refine O.itemEvent h (fun c item _ => ?_) e
  split
  next u done =>
    refine O.answer _ _ _ (O.aside (O.dropStage h) ?_)
    unfold State.stageOpen at done
    repeat' split at done
    all_goals cases done
    rfl
  · exact O.answer _ _ _ (O.dropStage h)

theorem stageKeys (h : P s) (e : execStageKeys s = .next t) : P t := by
  refine O.itemEvent h (fun c item _ => ?_) e
  split
  · exact O.offerMgmt (O.aside h rfl) rfl
  · exact O.answer _ _ _ (O.dropStage h)

theorem loadMgmtKeys (h : P s) (e : execLoadMgmtKeys s = .next t) : P t :=
  O.itemEvent h (fun _ _ _ => O.offerMgmt (O.dropStage h) rfl) e

theorem writeEventEnables (h : P s) (e : execWriteEventEnables s = .next t) : P t := by
  refine O.writeItem h (fun {a u b} kept done => ?_) e
  obtain rfl := Except.ok.inj done
  exact O.aside kept rfl

theorem clearEvents (h : P s) (e : execClearEvents s = .next t) : P t := by
  refine O.writeItem h (fun {a u b} kept done => ?_) e
  obtain rfl := Except.ok.inj done
  exact O.aside kept (.clearStatuses a _)

theorem clearCounters (I : ItemRules P) (h : P s) (e : execClearCounters s = .next t) : P t := by
  refine O.writeItem h (fun {a u b} kept done => ?_) e
  obtain rfl := Except.ok.inj done
  exact I.clearCounters kept

theorem unknownItemKind (h : P s) (e : execUnknownItemKind s = .next t) : P t :=
  O.itemEvent h (fun _ _ _ => O.answer _ _ _ (O.dropStage h)) e

theorem restart (h : P s) (e : execRestart s = .next t) : P t := by
  refine O.itemEvent h (fun c item hand => ?_) e
  obtain ⟨executing, _⟩ := hand
  have answers : ∀ (items : List Item) (a : State), P a ∧ a.mgu = .executing →
      let b := items.foldl (fun st i => st.answer i.kind .notExecuted []) a
      P b ∧ b.mgu = .executing := by
    intro items
    induction items with
    | nil => exact fun a kept => kept
    | cons i items ih => exact fun a kept => ih _ ⟨O.answer _ _ _ kept.1, kept.2⟩
  have dropped : s.dropStage.mgu = .executing := by rw [State.dropStage_eq]; exact executing
  obtain ⟨kept, still⟩ := answers ((messageItems s.dropStage.message).drop c.nextItem)
    (s.dropStage.answer item.kind .done []) ⟨O.answer _ _ _ (O.dropStage h), dropped⟩
  refine O.completeResponse c.key (O.aside kept rfl) ?_
  exact fun answering => by cases still.symm.trans answering

theorem powerOnReset (S : Starts P) (h : P s) (e : execPowerOnReset s = .next t) : P t := by
  cases e
  have start : P s.powerStart := by
    unfold State.powerStart
    split
    · exact S.warmStart h
    · exact S.coldStart h
  refine O.conclude _ _ ?_
  split
  · exact S.eraseAll start
  · exact start

theorem eraseLineAsserted (S : Starts P) (h : P s) (e : execEraseLineAsserted s = .next t) : P t := by
  unfold execEraseLineAsserted at e
  split at e <;> cases e
  · exact h
  · exact O.conclude _ _ (S.eraseAll (O.aside h rfl))

theorem erase (S : Starts P) (h : P s) (e : execErase s = .next t) : P t :=
  O.itemEvent h (fun _ _ _ => O.answer _ _ _ (S.eraseAll (O.dropStage h))) e

/-- A command keeps a predicate that the operations it carries out keep. -/
theorem exec_keeps {c : Instr} (I : ItemRules P) (B : movesBanks c = true → BankRules P)
    (E : endsResponse c = true → ResponseEnds P) (S : starts c = true → Starts P) (h : P s)
    (e : exec c s = .next t) : P t := by
  cases c with
  | powerOnReset => exact O.powerOnReset (S rfl) h e
  | eraseLineAsserted => exact O.eraseLineAsserted (S rfl) h e
  | uptimeTick => exact O.uptimeTick h e
  | deadlineExpiry till => exact O.deadlineExpiry h e
  | linkUp port => exact O.linkUp_next h e
  | linkDown port => exact O.linkDown (E rfl) h e
  | frameReceived port bytes =>
    rcases O.frameReceived h e with kept | ⟨rfl, u, opens, rfl⟩
    · exact kept
    · exact O.conclude _ _ ((B rfl).opens opens)
  | transmissionComplete port => exact O.transmissionComplete (E rfl) h e
  | wrapCompletion lane => exact O.wrapCompletion h e
  | verifyCompletion lane => exact O.verifyCompletion h e
  | mgmtTagResult => exact O.mgmtTagResult h e
  | keyUnwrapResult => exact O.keyUnwrapResult (B rfl).commitStage h e
  | responseCompletion => exact O.responseCompletion h e
  | responseTagResult => exact O.responseTagResult (E rfl) h e
  | readSettings => exact O.readItem h (by unfold exec execReadSettings at e; exact e)
  | readTill => exact O.readItem h (by unfold exec execReadTill at e; exact e)
  | readRule => exact O.readItem h (by unfold exec execReadRule at e; exact e)
  | readLocator => exact O.readItem h (by unfold exec execReadLocator at e; exact e)
  | readDestination => exact O.readItem h (by unfold exec execReadDestination at e; exact e)
  | readSlot => exact O.readItem h (by unfold exec execReadSlot at e; exact e)
  | readEvents => exact O.readItem h (by unfold exec execReadEvents at e; exact e)
  | readCounters => exact O.readItem h (by unfold exec execReadCounters at e; exact e)
  | writeSettings => exact O.writeItem h I.writeSettings (by unfold exec execWriteSettings at e; exact e)
  | writeTill => exact O.writeItem h I.writeTill (by unfold exec execWriteTill at e; exact e)
  | clearTill => exact O.writeItem h I.clearTill (by unfold exec execClearTill at e; exact e)
  | writeRule => exact O.writeItem h I.writeRule (by unfold exec execWriteRule at e; exact e)
  | clearRule => exact O.writeItem h I.clearRule (by unfold exec execClearRule at e; exact e)
  | writeLocator => exact O.writeItem h I.writeLocator (by unfold exec execWriteLocator at e; exact e)
  | clearLocator => exact O.writeItem h I.clearLocator (by unfold exec execClearLocator at e; exact e)
  | writeDestination => exact O.writeItem h I.writeDestination (by unfold exec execWriteDestination at e; exact e)
  | clearDestination => exact O.writeItem h I.clearDestination (by unfold exec execClearDestination at e; exact e)
  | stageOpen => exact O.stageOpen h e
  | stageKeys => exact O.stageKeys h e
  | switch => exact O.writeItem h (B rfl).switchSlot (by unfold exec execSwitch at e; exact e)
  | retire => exact O.writeItem h (B rfl).retireSlot (by unfold exec execRetire at e; exact e)
  | discardStage => exact O.writeItem h I.discardStage (by unfold exec execDiscardStage at e; exact e)
  | writeEventMap => exact O.writeItem h I.writeEventMap (by unfold exec execWriteEventMap at e; exact e)
  | writeEventEnables => exact O.writeEventEnables h e
  | clearEvents => exact O.clearEvents h e
  | clearCounters => exact O.clearCounters I h e
  | loadMgmtKeys => exact O.loadMgmtKeys h e
  | restart => exact O.restart h e
  | erase => exact O.erase (S rfl) h e
  | eraseLineDeasserted => cases e; exact O.aside h rfl
  | batterySupplyLost => cases e; exact O.aside h rfl
  | unknownItemKind => exact O.unknownItemKind h e

end Ordinary

/-- A predicate that every operation keeps, whichever command carries it out. -/
structure Keeps (P : State → Prop) : Prop where
  ordinary : Ordinary P
  items : ItemRules P
  banks : BankRules P
  ends : ResponseEnds P
  starts : Starts P

theorem Keeps.exec (K : Keeps P) {c : Instr} (h : P s) (e : exec c s = .next t) : P t :=
  K.ordinary.exec_keeps K.items (fun _ => K.banks) (fun _ => K.ends) (fun _ => K.starts) h e

/-- A law that every command keeps is kept by every step. -/
theorem Keeps.step (K : Keeps P) (h : P s) (e : step s = .next t) : P t := by
  unfold Machine.step at e
  split at e
  · cases e; exact h
  next rest _ =>
    have popped : P { s with pending := rest } := K.ordinary.aside h rfl
    exact K.exec popped e

end Sys2Proof.Machine
end

section
/-! SUPPORT. The operations of arrivals, job results, notices, admissions and commits leave what items write alone: the
tables, the settings, the map, the management keys, and what a WRITE_TILL item writes of a till. -/

namespace Sys2Proof.Machine

/-- An entry of a table after one of them is replaced. -/
theorem getElem_set_fin {α : Type} {n : Nat} (v : Vector α n) (i j : Fin n) (x : α) :
    (v.set i x)[j] = if i = j then x else v[j] := by
  simp [Vector.getElem_set, Fin.ext_iff]

/-- The fields of a till entry that only items and a cold start write (R43, R52, R54). -/
def TillEntry.written (e : TillEntry) : Bool × Nat × Ip × Mac × Fin 16 × Byte :=
  (e.valid, e.number, e.ip, e.mac, e.slot, e.timeoutCode)

theorem TillEntry.written_eq_iff {d e : TillEntry} :
    e.written = d.written ↔ e.valid = d.valid ∧ e.number = d.number ∧ e.ip = d.ip ∧ e.mac = d.mac ∧
      e.slot = d.slot ∧ e.timeoutCode = d.timeoutCode := by
  simp [TillEntry.written]

@[simp] theorem TillEntry.setStat_written (e : TillEntry) (k : Stat) (n : Nat) :
    (e.setStat k n).written = e.written := by
  cases k <;> rfl

/-- The tables, the settings, the map, and the tills as items wrote them. -/
def State.tables (s : State) : Vector Rule 16 × Vector Locator 8 × Settings × Vector (Option Destination) 4 ×
    Vector (Option (Fin 24)) 18 × Vector (Bool × Nat × Ip × Mac × Fin 16 × Byte) 128 :=
  (s.rules, s.locators, s.settings, s.destinations, s.eventMap, s.tills.map TillEntry.written)

/-- What items write and no other event but a start, an erase or the end of a response does: the tables and the
management keys. -/
def State.byItems (s : State) := (s.tables, s.mgmtKeys)

/-- The tills as items wrote them are the same one by one. -/
theorem tills_written_eq_iff {v w : Vector TillEntry 128} :
    w.map TillEntry.written = v.map TillEntry.written ↔ ∀ i : Fin 128, w[i].written = v[i].written := by
  refine ⟨fun h i => ?_, fun h => Vector.ext fun i hi => ?_⟩
  · simpa using congrArg (·[i]) h
  · simpa using h ⟨i, hi⟩

theorem State.tables_eq_iff {a b : State} :
    b.tables = a.tables ↔ b.rules = a.rules ∧ b.locators = a.locators ∧ b.settings = a.settings ∧
      b.destinations = a.destinations ∧ b.eventMap = a.eventMap ∧
      ∀ i : Fin 128, b.tills[i].written = a.tills[i].written := by
  simp [State.tables, tills_written_eq_iff]

theorem State.byItems_eq_iff {a b : State} :
    b.byItems = a.byItems ↔ b.tables = a.tables ∧ b.mgmtKeys = a.mgmtKeys := by
  simp [State.byItems]

variable (s : State)

/-- A till replaced by one as items wrote it. -/
theorem State.byItems_of_set {i : Fin 128} {e : TillEntry} (same : e.written = s.tills[i].written) :
    ({ s with tills := s.tills.set i e } : State).byItems = s.byItems := by
  refine State.byItems_eq_iff.mpr ⟨State.tables_eq_iff.mpr ⟨rfl, rfl, rfl, rfl, rfl, fun j => ?_⟩, rfl⟩
  rw [getElem_set_fin]
  split
  next h => subst h; exact same
  · rfl

/-! ## Setters, statuses and counters -/

theorem State.Aside.byItems {a b : State} (h : a.Aside b) : b.byItems = a.byItems := by
  rw [h]; rfl

@[simp] theorem State.setPort_byItems (p : PortId) (x : PortState) : (s.setPort p x).byItems = s.byItems := by
  cases p <;> rfl

@[simp] theorem State.setReceive_byItems (p : PortId) (f : Option Bytes) : (s.setReceive p f).byItems = s.byItems :=
  s.setPort_byItems p _

@[simp] theorem State.setExchange_byItems (i : Fin 128) (x : Option Exchange) :
    (s.setExchange i x).byItems = s.byItems := s.byItems_of_set rfl

@[simp] theorem State.setBank_byItems (k : Fin 16) (b : BankId) (x : KeyBank) :
    (s.setBank k b x).byItems = s.byItems := rfl

@[simp] theorem State.takeRefs_byItems (k : Fin 16) (b : BankId) (n : Nat) :
    (s.takeRefs k b n).byItems = s.byItems := rfl

@[simp] theorem State.releaseRefs_byItems (k : Fin 16) (b : BankId) (n : Nat) :
    (s.releaseRefs k b n).byItems = s.byItems := rfl

@[simp] theorem State.freeFrame_byItems (i : Fin 64) : (s.freeFrame i).byItems = s.byItems := rfl

@[simp] theorem State.latch_byItems (e : EventSource) : (s.latch e).byItems = s.byItems := rfl

@[simp] theorem State.bump_byItems (c : Counter) : (s.bump c).byItems = s.byItems := (State.Aside.bump s c).byItems

@[simp] theorem State.bumpStat_byItems (i : Fin 128) (k : Stat) : (s.bumpStat i k).byItems = s.byItems := by
  rw [State.bumpStat_eq]
  exact s.byItems_of_set (TillEntry.setStat_written ..)

@[simp] theorem State.guardBlocked_byItems : s.guardBlocked.byItems = s.byItems := by
  simp [State.guardBlocked]

@[simp] theorem State.tickTills_byItems : s.tickTills.byItems = s.byItems :=
  State.byItems_eq_iff.mpr
    ⟨State.tables_eq_iff.mpr ⟨rfl, rfl, rfl, rfl, rfl, fun i => by simp [State.tickTills, TillEntry.written]⟩, rfl⟩

theorem NoticeStep.byItems {a t : State} (h : NoticeStep a t) : t.byItems = a.byItems := by
  rw [h.others]; rfl

theorem SettlesTo.byItems {a t : State} (h : SettlesTo a t) : t.byItems = a.byItems := by
  rw [h.others]; rfl

/-! ## Engine and output -/

@[simp] theorem State.enterJob_byItems (j : Job) : (s.enterJob j).byItems = s.byItems := by
  obtain ⟨w, v, h⟩ := s.enterJob_shape j
  rw [h]; rfl

@[simp] theorem State.offerMgmt_byItems (w : JobWork) : (s.offerMgmt w).byItems = s.byItems := by
  obtain ⟨w, v, m, h⟩ := s.offerMgmt_shape w
  rw [h]; rfl

@[simp] theorem State.finishLane_byItems (l : Fin 4) : (s.finishLane l).byItems = s.byItems := by
  obtain ⟨w, v, m, h⟩ := s.finishLane_shape l
  rw [h]; rfl

@[simp] theorem State.arbiter_byItems (p : PortId) : (s.arbiter p).byItems = s.byItems := by
  obtain ⟨x, w, n, h, _⟩ := s.arbiter_shape p
  rw [h]; exact s.setPort_byItems p x

theorem State.releaseEntry_byItems (p : PortId) {e : OwnEntry} (own : e ≠ .response) :
    (s.releaseEntry p e).byItems = s.byItems := by
  obtain ⟨fr, fs, sb, w, x, h, _⟩ := s.releaseEntry_shape p e own
  rw [h]; exact s.setPort_byItems p x

theorem State.offerOwn_byItems (p : PortId) {e : OwnEntry} (own : e ≠ .response) :
    (s.offerOwn p e).1.byItems = s.byItems := by
  rcases s.offerOwn_cases p e with ⟨_, h⟩ | ⟨_, _, _, h⟩ | ⟨_, _, h⟩ <;>
    simp [h, State.releaseEntry_byItems _ p own]

@[simp] theorem State.offerBridge_byItems (p : PortId) (f : Bytes) : (s.offerBridge p f).byItems = s.byItems := by
  rcases s.offerBridge_cases p f with ⟨_, h⟩ | ⟨_, _, _, h⟩ | ⟨_, _, _, h⟩ | ⟨_, _, _, h⟩ <;> simp [h]

@[simp] theorem State.arpArrive_byItems (p : PortId) (f : Bytes) : (s.arpArrive p f).byItems = s.byItems := by
  unfold State.arpArrive
  split
  · rfl
  · exact (State.offerOwn_byItems _ p (by simp)).trans (s.setPort_byItems p _)

/-! ## Exchanges -/

@[simp] theorem State.standIn_byItems (i : Fin 128) (r : Reason) (q : Option Sequence) (port : UdpPort) :
    (s.standIn i r q port).byItems = s.byItems := by
  obtain ⟨st, cs, k, x, fr, fs, sb, d, w, n, h, _⟩ := s.standIn_shape i r q port
  rw [h]
  exact s.byItems_of_set (TillEntry.setStat_written _ .refusals k)

@[simp] theorem State.closeExchange_byItems (i : Fin 128) (n : Nat) :
    (s.closeExchange i n).byItems = s.byItems := by
  obtain ⟨sl, w, v, m, fr, fs, h⟩ := s.closeExchange_shape i n
  rw [h]
  exact s.byItems_of_set (e := { s.tills[i] with exchange := none }) rfl

@[simp] theorem State.closeLost_byItems (i : Fin 128) (x : Exchange) (n : Nat) :
    (s.closeLost i x n).byItems = s.byItems := by
  simp [State.closeLost]

@[simp] theorem State.openExchange_byItems (c : Capture) (d : Destination) (b : BankId) (k : Fin 64)
    (rest : List (Fin 64)) (f : Bytes) : (s.openExchange c d b k rest f).byItems = s.byItems := by
  unfold State.openExchange
  exact (State.enterJob_byItems _ _).trans (State.setExchange_byItems _ _ _)

@[simp] theorem State.acceptReply_byItems (i : Fin 128) (x : Exchange) (k : Fin 64) (rest : List (Fin 64)) (f : Bytes) :
    (s.acceptReply i x k rest f).byItems = s.byItems := by
  unfold State.acceptReply
  exact (State.enterJob_byItems _ _).trans (State.setExchange_byItems _ _ _)

@[simp] theorem State.discardJob_byItems (t : JobTarget) : (s.discardJob t).byItems = s.byItems := rfl

@[simp] theorem State.wrapTaken_byItems (t : JobTarget) (x : Exchange) : (s.wrapTaken t x).byItems = s.byItems := by
  simp [State.wrapTaken]

@[simp] theorem State.sendWrapped_byItems (t : JobTarget) (c : Capture) (d : Destination) (v : WrapValues)
    (x : Exchange) : (s.sendWrapped t c d v x).byItems = s.byItems := by
  have offered : (State.offerOwn
      { s with frames := s.frames.set t.frame (s.wrappedFrame t c d v), ident := s.ident + 1 } .L
      (.wrapped t.frame)).1.byItems = s.byItems := State.offerOwn_byItems _ .L (by simp)
  unfold State.sendWrapped
  split
  all_goals
    next s1 h =>
      rw [h] at offered
      simpa using offered

@[simp] theorem State.forwardReply_byItems (t : JobTarget) (n : Nat) (x : Exchange) :
    (s.forwardReply t n x).byItems = s.byItems := by
  simp only [State.forwardReply, State.bump_byItems, State.closeExchange_byItems]
  exact State.offerOwn_byItems _ .T (by simp)

@[simp] theorem State.failReply_byItems (t : JobTarget) (x : Exchange) :
    (s.failReply t x).byItems = s.byItems := by
  unfold State.failReply
  dsimp only
  split <;> simp

/-! ## Banks -/

@[simp] theorem State.commitStage_byItems (i : Fin 16) (bank : KeyBank) :
    (s.commitStage i bank).byItems = s.byItems := by
  unfold State.commitStage
  split <;> rfl

theorem State.switchSlot_byItems {s t : State} {b : Bytes} (h : s.switchSlot b = .ok t) : t.byItems = s.byItems := by
  unfold State.switchSlot at h
  repeat' split at h
  all_goals cases h
  rfl

theorem State.retireSlot_byItems {s t : State} {b : Bytes} (h : s.retireSlot b = .ok t) : t.byItems = s.byItems := by
  unfold State.retireSlot at h
  repeat' split at h
  all_goals cases h
  rfl

theorem State.discardStage_byItems {s t : State} {b : Bytes} (h : s.discardStage b = .ok t) :
    t.byItems = s.byItems := by
  unfold State.discardStage at h
  repeat' split at h
  all_goals cases h
  rfl

/-! ## Predicates of what items write -/

variable {P : State → Prop}

/-- A predicate of what items write is kept by every operation outside items, response ends and starts. -/
theorem Ordinary.of_byItems (same : ∀ {a b : State}, b.byItems = a.byItems → P a → P b) : Ordinary P where
  aside h e := same e.byItems h
  receive _ _ h := same (by simp) h
  mgu {a _} h _ _ := same (a := a) rfl h
  offerMgmt h _ := same (by simp) h
  arpArrive _ _ h := same (by simp) h
  offerBridge _ _ h := same (by simp) h
  standIn _ _ _ h _ := same (by simp) h
  acceptReply _ h _ _ _ _ _ := same (by simp) h
  close _ h := same (by simp) h
  lost h _ := same (by simp) h
  expired h _ := same (by simp) h
  tick h := same (by simp) h
  finishMgmt h _ _ := same (by simp) h
  discard h _ _ := same (by simp) h
  sendWrapped h _ _ _ := same (by simp) h
  forwardReply h _ _ _ := same (by simp) h
  failReply h _ _ _ := same (by simp) h
  askNotice h := same (State.askNotice_notice _).byItems h
  linkUp h _ := same (by simp) h

theorem BankRules.of_byItems (same : ∀ {a b : State}, b.byItems = a.byItems → P a → P b) : BankRules P where
  openExchange d _ _ _ f h _ _ _ _ _ := same (by simp) h
  commitStage _ _ _ _ _ h := same (by simp) h
  switchSlot h e := same (State.switchSlot_byItems e) h
  retireSlot h e := same (State.retireSlot_byItems e) h

end Sys2Proof.Machine
end

section
/-! SUPPORT. The end of a response and a restart leave the tables, and may move the pending keys of the message in hand
to the management keys (R175, R178); an erase leaves the factory keys (R176). -/

namespace Sys2Proof.Machine

variable (s : State)

theorem State.tables_of_byItems {a b : State} (h : b.byItems = a.byItems) : b.tables = a.tables :=
  (State.byItems_eq_iff.mp h).1

theorem State.mgmtKeys_of_byItems {a b : State} (h : b.byItems = a.byItems) : b.mgmtKeys = a.mgmtKeys :=
  (State.byItems_eq_iff.mp h).2

theorem SettlesTo.tables {a t : State} (h : SettlesTo a t) : t.tables = a.tables := State.tables_of_byItems h.byItems

theorem SettlesTo.mgmtKeys {a t : State} (h : SettlesTo a t) : t.mgmtKeys = a.mgmtKeys :=
  State.mgmtKeys_of_byItems h.byItems

/-! ## The keys a message can leave (R175, R178) -/

/-- The management keys with the pending keys of the message in hand. -/
def State.keysHeld (s : State) : MgmtKeys × Option MgmtKeys := (s.mgmtKeys, s.context.bind (·.pendingKeys))

/-- The keys after the end of a response. -/
def committed (k : MgmtKeys × Option MgmtKeys) : MgmtKeys × Option MgmtKeys := (k.2.getD k.1, none)

@[simp] theorem committed_committed (k : MgmtKeys × Option MgmtKeys) : committed (committed k) = committed k := rfl

/-- `t` holds the keys of `s`, or those that the end of a response leaves. -/
def EndsOrKeeps (s t : State) : Prop := t.keysHeld = s.keysHeld ∨ t.keysHeld = committed s.keysHeld

theorem EndsOrKeeps.of_eq {s t : State} (h : t.keysHeld = s.keysHeld) : EndsOrKeeps s t := .inl h

theorem EndsOrKeeps.trans {a b c : State} (h : EndsOrKeeps a b) (k : EndsOrKeeps b c) : EndsOrKeeps a c := by
  rcases h with h | h <;> rcases k with k | k <;> simp [EndsOrKeeps, h, k]

theorem EndsOrKeeps.foldl {α : Type} {op : State → α → State} (h : ∀ s a, EndsOrKeeps s (op s a)) (as : List α)
    (s : State) : EndsOrKeeps s (as.foldl op s) := by
  induction as generalizing s with
  | nil => exact .of_eq rfl
  | cons a as ih => exact (h s a).trans (ih _)

/-- Where the keys have moved, they are the pending keys of the message that was in hand. -/
theorem EndsOrKeeps.pending {s t : State} (h : EndsOrKeeps s t) (moved : t.mgmtKeys ≠ s.mgmtKeys) :
    s.context.bind (·.pendingKeys) = some t.mgmtKeys := by
  rcases h with h | h
  · exact absurd (congrArg Prod.fst h) moved
  · have keys : t.mgmtKeys = (s.context.bind (·.pendingKeys)).getD s.mgmtKeys := congrArg Prod.fst h
    cases pending : s.context.bind (·.pendingKeys) with
    | none => simp [pending] at keys; exact absurd keys moved
    | some k => simpa [pending] using keys.symm

@[simp] theorem State.setPort_keysHeld (p : PortId) (x : PortState) : (s.setPort p x).keysHeld = s.keysHeld := by
  cases p <;> rfl

@[simp] theorem State.bump_keysHeld (c : Counter) : (s.bump c).keysHeld = s.keysHeld := by
  rw [State.bump_eq]; rfl

@[simp] theorem State.guardBlocked_keysHeld : s.guardBlocked.keysHeld = s.keysHeld := by
  simp only [State.guardBlocked, State.bump_keysHeld]; rfl

@[simp] theorem State.finishLane_keysHeld (l : Fin 4) : (s.finishLane l).keysHeld = s.keysHeld := by
  obtain ⟨w, v, m, h⟩ := s.finishLane_shape l
  rw [h]; rfl

@[simp] theorem State.arbiter_keysHeld (p : PortId) : (s.arbiter p).keysHeld = s.keysHeld := by
  obtain ⟨x, w, n, h, _⟩ := s.arbiter_shape p
  rw [h]; exact s.setPort_keysHeld p x

@[simp] theorem State.endResponse_keysHeld : s.endResponse.keysHeld = committed s.keysHeld := rfl

theorem State.releaseEntry_keysHeld (p : PortId) (e : OwnEntry) : EndsOrKeeps s (s.releaseEntry p e) := by
  cases e with
  | response => exact .inr s.endResponse_keysHeld
  | arp b => exact .of_eq (s.setPort_keysHeld p _)
  | wrapped i | forwarded i | standIn e | notice => exact .of_eq rfl

theorem State.offerOwn_keysHeld (p : PortId) (e : OwnEntry) : EndsOrKeeps s (s.offerOwn p e).1 := by
  rcases s.offerOwn_cases p e with ⟨_, h⟩ | ⟨_, _, _, h⟩ | ⟨_, _, h⟩ <;> rw [h]
  · exact s.releaseEntry_keysHeld p e
  · exact .trans (.of_eq s.guardBlocked_keysHeld) (State.releaseEntry_keysHeld _ p e)
  · exact .of_eq (by simp)

theorem State.releaseAbandoned_keysHeld (p : PortId) (k : TxKind) : EndsOrKeeps s (s.releaseAbandoned p k) := by
  unfold State.releaseAbandoned
  split
  · exact .of_eq (s.bump_keysHeld _)
  · exact .of_eq rfl
  · exact s.releaseEntry_keysHeld p _

theorem State.releaseSent_keysHeld (p : PortId) (k : TxKind) : EndsOrKeeps s (s.releaseSent p k) := by
  unfold State.releaseSent
  split
  · exact .of_eq (s.bump_keysHeld _)
  · exact .of_eq (State.bump_keysHeld _ _)
  · exact s.releaseEntry_keysHeld p _

theorem State.linkLost_keysHeld (p : PortId) : EndsOrKeeps s (s.linkLost p) := by
  unfold State.linkLost
  refine .trans (.trans ?_ (.foldl (fun st e => st.releaseEntry_keysHeld p e) _ _))
    (.foldl (fun st _ => .of_eq (st.bump_keysHeld _)) _ _)
  split
  · exact .of_eq (s.setPort_keysHeld p _)
  · exact .trans (.of_eq (s.setPort_keysHeld p _)) (State.releaseAbandoned_keysHeld _ p _)

theorem State.sendResponse_keysHeld {c : Context} (context : s.context = some c) (tag : Bytes) :
    EndsOrKeeps s (s.sendResponse c tag) := by
  unfold State.sendResponse
  exact .trans (.of_eq (by simp [State.keysHeld, context])) (State.offerOwn_keysHeld _ _ _)

theorem State.tagResponse_keysHeld (tag : Bytes) : EndsOrKeeps s (s.tagResponse tag) := by
  unfold State.tagResponse
  split
  next context => exact s.sendResponse_keysHeld context tag
  · exact .of_eq rfl

/-- A restart that is due moves no keys beyond those that the response's end has moved (R184). -/
theorem concludeResponse_mgmtKeys (before : State) : (concludeResponse before s).mgmtKeys = s.mgmtKeys := by
  unfold concludeResponse
  split
  · exact (conclude_settles ..).mgmtKeys
  · exact (conclude_settles ..).mgmtKeys

/-! ## The tables where a response ends -/

theorem State.releaseEntry_tables (p : PortId) (e : OwnEntry) : (s.releaseEntry p e).tables = s.tables := by
  by_cases own : e = .response
  · subst own; rfl
  · exact State.tables_of_byItems (s.releaseEntry_byItems p own)

theorem State.offerOwn_tables (p : PortId) (e : OwnEntry) : (s.offerOwn p e).1.tables = s.tables := by
  rcases s.offerOwn_cases p e with ⟨_, h⟩ | ⟨_, _, _, h⟩ | ⟨_, _, h⟩ <;> rw [h]
  · exact s.releaseEntry_tables p e
  · exact (State.releaseEntry_tables _ p e).trans (State.tables_of_byItems s.guardBlocked_byItems)
  · exact State.tables_of_byItems (by simp)

theorem State.releaseAbandoned_tables (p : PortId) (k : TxKind) : (s.releaseAbandoned p k).tables = s.tables := by
  unfold State.releaseAbandoned
  split
  · exact State.tables_of_byItems (s.bump_byItems _)
  · rfl
  · exact s.releaseEntry_tables p _

theorem State.releaseSent_tables (p : PortId) (k : TxKind) : (s.releaseSent p k).tables = s.tables := by
  unfold State.releaseSent
  split
  · exact State.tables_of_byItems (s.bump_byItems _)
  · exact State.tables_of_byItems (State.bump_byItems _ _)
  · exact s.releaseEntry_tables p _

theorem foldl_tables {α : Type} {op : State → α → State} (h : ∀ s a, (op s a).tables = s.tables) (as : List α)
    (s : State) : (as.foldl op s).tables = s.tables := by
  induction as generalizing s with
  | nil => rfl
  | cons a as ih => exact (ih _).trans (h s a)

theorem State.linkLost_tables (p : PortId) : (s.linkLost p).tables = s.tables := by
  have port := fun x => State.tables_of_byItems (s.setPort_byItems p x)
  unfold State.linkLost
  rw [foldl_tables fun st _ => State.tables_of_byItems (st.bump_byItems _),
    foldl_tables fun st e => st.releaseEntry_tables p e]
  split
  · exact port _
  · exact (State.releaseAbandoned_tables _ p _).trans (port _)

theorem State.sendResponse_tables (c : Context) (tag : Bytes) : (s.sendResponse c tag).tables = s.tables :=
  State.offerOwn_tables _ _ _

theorem State.loseWork_tables : s.loseWork.tables = s.tables :=
  State.tables_eq_iff.mpr ⟨rfl, rfl, rfl, rfl, rfl, fun i => by
    simp [State.loseWork, TillEntry.withoutExchange, TillEntry.written]⟩

theorem State.warmStart_tables : s.warmStart.tables = s.tables := s.loseWork_tables

/-- A predicate of the tables is kept where a response ends. -/
theorem ResponseEnds.of_tables {P : State → Prop} (same : ∀ {a b : State}, b.tables = a.tables → P a → P b) :
    ResponseEnds P where
  linkLost h _ := same (State.linkLost_tables _ _) h
  sent {a p w} h _ := by
    refine same ?_ h
    exact (State.tables_of_byItems (State.arbiter_byItems _ _)).trans
      ((State.releaseSent_tables _ _ _).trans (State.tables_of_byItems (State.setPort_byItems _ _ _)))
  sendResponse tag h _ := same (State.sendResponse_tables _ _ _) h
  loseWork h := same (State.loseWork_tables _) h

/-! ## The erase (R79, R80) -/

/-- The state in which an erase has emptied every block but MGU and EVU. -/
def State.erasing (s : State) : State :=
  { s.clearEngine with
    slots := Vector.replicate 16 .cleared
    load := .none
    tills := s.tills.map TillEntry.withoutExchange
    portT := s.portT.afterErase
    portL := s.portL.afterErase
    mgmtKeys := s.factory.keys
    context := s.context.map fun c => { c with pendingKeys := none } }

/-- An erase ends with MGU's part, ERASED latched and both arbiters. -/
theorem State.eraseAll_eq :
    s.eraseAll = ((s.erasing.eraseMessage.latch .erased).arbiter .T).arbiter .L := rfl

theorem State.erasing_tables : s.erasing.tables = s.tables :=
  State.tables_eq_iff.mpr ⟨rfl, rfl, rfl, rfl, rfl, fun i => by
    simp [State.erasing, TillEntry.withoutExchange, TillEntry.written]⟩

theorem State.eraseMessage_byItems : s.eraseMessage.byItems = s.byItems := by
  unfold State.eraseMessage
  split
  · unfold State.rejectMessage
    simp only [State.bump_byItems, State.latch_byItems]
    rfl
  · split <;> rfl
  · exact s.offerMgmt_byItems _
  · rfl

theorem State.eraseAll_byItems : s.eraseAll.byItems = s.erasing.byItems := by
  rw [State.eraseAll_eq]
  simp [State.eraseMessage_byItems]

theorem State.eraseAll_tables : s.eraseAll.tables = s.tables :=
  (State.tables_of_byItems s.eraseAll_byItems).trans s.erasing_tables

/-- R176: an erase leaves the factory keys. -/
theorem State.eraseAll_mgmtKeys : s.eraseAll.mgmtKeys = s.factory.keys := State.mgmtKeys_of_byItems s.eraseAll_byItems

/-- A predicate of the tables is kept by the starts and the erase where a cold start meets it. -/
theorem Starts.of_tables {P : State → Prop} (same : ∀ {a b : State}, b.tables = a.tables → P a → P b)
    (cold : ∀ a : State, P a.coldStart) : Starts P where
  warmStart h := same (State.warmStart_tables _) h
  coldStart _ := cold _
  eraseAll h := same (State.eraseAll_tables _) h

/-- A law of the tables is kept by every step where the items' rules keep it and a cold start meets it. -/
theorem Keeps.of_tables {P : State → Prop} (same : ∀ {a b : State}, b.tables = a.tables → P a → P b)
    (items : ItemRules P) (cold : ∀ a : State, P a.coldStart) : Keeps P where
  ordinary := .of_byItems fun h => same (State.tables_of_byItems h)
  items := items
  banks := .of_byItems fun h => same (State.tables_of_byItems h)
  ends := .of_tables same
  starts := .of_tables same cold

end Sys2Proof.Machine
end

section
/-! SUPPORT. What the rules of the write items answer, said once each: the checks that passed and the state written (R39 to
R42, R52 to R54, R72 to R74, R181, R183, R193). -/

namespace Sys2Proof.Machine

variable {s t : State} {b : Bytes}

theorem State.writeSettings_ok (h : s.writeSettings b = .ok t) :
    ∃ x, parseSettings b = some x ∧
      t = { s with
        settings := x
        context := s.context.map fun c => c.replacing s.settings.managementPort x.managementPort } := by
  unfold State.writeSettings at h
  split at h
  · cases h
  next x parsed => cases h; exact ⟨x, parsed, rfl⟩

theorem State.writeTill_ok (h : s.writeTill b = .ok t) :
    ∃ i f, indexOf 128 (byteAt b 0) = some i ∧ parseTill b = some f ∧ s.tillTaken i f = false ∧
      t = (s.closeExchange i 0).setTill i ((s.closeExchange i 0).tills[i].write f) := by
  unfold State.writeTill at h
  split at h
  · cases h
  next i named =>
    split at h
    · cases h
    next f parsed =>
      split at h
      · cases h
      next free =>
        cases h
        exact ⟨i, f, named, parsed, by simpa using free, rfl⟩

theorem bodyIndex_map_ok {α : Type} {n : Nat} {effect : Fin n → α} {u : α}
    (h : (bodyIndex n b).map effect = .ok u) : ∃ i, indexOf n (byteAt b 0) = some i ∧ u = effect i := by
  unfold bodyIndex at h
  cases named : indexOf n (byteAt b 0) with
  | none => rw [named] at h; cases h
  | some i => rw [named] at h; cases h; exact ⟨i, rfl, rfl⟩

theorem State.clearTill_ok (h : s.clearTill b = .ok t) :
    ∃ i, indexOf 128 (byteAt b 0) = some i ∧ t = (s.closeExchange i 0).setTill i .cold := bodyIndex_map_ok h

theorem State.writeRule_ok (h : s.writeRule b = .ok t) :
    ∃ (i : Fin 16) (r : Rule), (r.valid = true → s.locators[r.locator].valid = true) ∧
      t = { s with rules := s.rules.set i r } := by
  unfold State.writeRule at h
  split at h
  · cases h
  next i _ =>
    split at h
    · cases h
    next r _ =>
      split at h
      · cases h
      next names => cases h; exact ⟨i, r, by simpa using names, rfl⟩

theorem State.clearRule_ok (h : s.clearRule b = .ok t) :
    ∃ i, indexOf 16 (byteAt b 0) = some i ∧ t = { s with rules := s.rules.set i .cold } := bodyIndex_map_ok h

theorem State.locatorNamed_eq_false_iff {i : Fin 8} :
    s.locatorNamed i = false ↔ ∀ j : Fin 16, s.rules[j].valid = true → s.rules[j].locator ≠ i := by
  rw [Bool.eq_false_iff]
  simp only [State.locatorNamed, ne_eq, List.any_eq_true, Bool.and_eq_true, beq_iff_eq, not_exists, not_and,
    Vector.mem_toList_iff, Vector.mem_iff_getElem]
  constructor
  · exact fun h j valid => h _ ⟨j.val, j.isLt, rfl⟩ valid
  · rintro h _ ⟨j, hj, rfl⟩ valid
    exact h ⟨j, hj⟩ valid

theorem State.writeLocator_ok (h : s.writeLocator b = .ok t) :
    ∃ (i : Fin 8) (l : Locator), (l.valid = true ∨ s.locatorNamed i = false) ∧
      t = { s with locators := s.locators.set i l } := by
  unfold State.writeLocator at h
  split at h
  · cases h
  next i _ =>
    split at h
    · cases h
    next l _ =>
      split at h
      · cases h
      next free =>
        cases h
        refine ⟨i, l, ?_, rfl⟩
        cases valid : l.valid <;> simp_all

theorem State.clearLocator_ok (h : s.clearLocator b = .ok t) :
    ∃ i : Fin 8, s.locatorNamed i = false ∧ t = { s with locators := s.locators.set i .cold } := by
  unfold State.clearLocator at h
  split at h
  · cases h
  next i _ =>
    split at h
    · cases h
    next free => cases h; exact ⟨i, by simpa using free, rfl⟩

theorem State.writeDestination_ok (h : s.writeDestination b = .ok t) :
    ∃ i : Fin 4, indexOf 4 (byteAt b 0) = some i ∧
      t = { s with destinations := s.destinations.set i (some (parseDestination b)) } := bodyIndex_map_ok h

theorem State.clearDestination_ok (h : s.clearDestination b = .ok t) :
    ∃ i : Fin 4, indexOf 4 (byteAt b 0) = some i ∧ t = { s with destinations := s.destinations.set i none } :=
  bodyIndex_map_ok h

theorem State.discardStage_ok (h : s.discardStage b = .ok t) :
    ∃ (i : Fin 16) (x : BankId), s.slots[i].staged = some x ∧ t = s.setBank i x .cleared := by
  unfold State.discardStage at h
  split at h
  · cases h
  next i _ =>
    split at h
    · cases h
    next x staged => cases h; exact ⟨i, x, staged, rfl⟩

theorem State.switchSlot_ok (h : s.switchSlot b = .ok t) :
    ∃ (i : Fin 16) (k : KeySlot), s.slots[i].switch = some k ∧ t = { s with slots := s.slots.set i k } := by
  unfold State.switchSlot at h
  split at h
  · cases h
  next i _ =>
    split at h
    · cases h
    next k switched => cases h; exact ⟨i, k, switched, rfl⟩

theorem State.retireSlot_ok (h : s.retireSlot b = .ok t) :
    ∃ (i : Fin 16) (x : BankId), s.slots[i].live = some x ∧ s.slots[i].busy = false ∧
      t = s.setBank i x (s.bank i x).giveUp := by
  unfold State.retireSlot at h
  split at h
  · cases h
  next i _ =>
    split at h
    · cases h
    next x live =>
      split at h
      · cases h
      next idle => cases h; exact ⟨i, x, live, by simpa using idle, rfl⟩

/-- R193: no two sources of a map are given the same slot. -/
theorem mapShares_eq_false_iff {m : Vector (Option (Fin 24)) 18} :
    mapShares m = false ↔ ∀ i j : Fin 18, i ≠ j → m[i] = m[j] → m[i] = none := by
  have pairs : (m.toList.filterMap id).Nodup ↔
      ∀ (i j : Nat) (hi : i < 18) (hj : j < 18), i < j → ∀ n, m[i] = some n → m[j] ≠ some n := by
    unfold List.Nodup
    rw [List.pairwise_filterMap, List.pairwise_iff_getElem]
    constructor
    · intro h i j hi hj before n first second
      exact h i j (by simpa using hi) (by simpa using hj) before n (by simpa using first) n (by simpa using second) rfl
    · intro h i j hi hj before n first k second same
      subst same
      exact h i j (by simpa using hi) (by simpa using hj) before n (by simpa using first) (by simpa using second)
  simp only [mapShares, Bool.not_eq_false', decide_eq_true_eq, pairs]
  constructor
  · intro h i j apart same
    rcases Nat.lt_or_gt_of_ne (fun e => apart (Fin.ext e)) with before | after
    · cases slot : m[i] with
      | none => rfl
      | some n => exact absurd (same.symm.trans slot) (h i j i.isLt j.isLt before n slot)
    · cases slot : m[i] with
      | none => rfl
      | some n => exact absurd slot (h j i j.isLt i.isLt after n (same.symm.trans slot))
  · intro h i j hi hj before n first second
    have none := h ⟨i, hi⟩ ⟨j, hj⟩ (by simpa using Nat.ne_of_lt before) (first.trans second.symm)
    exact absurd (first.symm.trans none) (by simp)

theorem State.writeEventMap_ok (h : s.writeEventMap b = .ok t) :
    ∃ m, parseEventMap b = some m ∧ mapShares m = false ∧ t = { s with eventMap := m } := by
  unfold State.writeEventMap at h
  split at h
  · cases h
  next m parsed =>
    split at h
    · cases h
    next apart => cases h; exact ⟨m, parsed, by simpa using apart, rfl⟩

theorem parseSettings_ranges {x : Settings} (h : parseSettings b = some x) :
    x.tillVlan ≤ Config.vlanMax ∧ x.lineVlan ≤ Config.vlanMax ∧ x.warnMargin ≤ 65535 ∧
      x.localFloor ≤ Config.floorMax := by
  unfold parseSettings at h
  dsimp only at h
  split at h
  · cases h
  · split at h
    next inRange =>
      cases h
      exact ⟨inRange.1, inRange.2.1, Nat.le_of_lt_succ (fieldNat_lt b 22 2), Nat.min_le_right _ _⟩
    · cases h

end Sys2Proof.Machine
end

section
/-! SUPPORT. The laws of the tables under the items' rules, and where a cold start meets them. -/

namespace Sys2Proof.Machine

/-! ## The tables a rule leaves -/

theorem State.closeExchange_setTill_tables (s : State) (i : Fin 128) (n : Nat) (e : TillEntry) :
    ((s.closeExchange i n).setTill i e).tables = (s.setTill i e).tables := by
  obtain ⟨sl, w, v, m, fr, fs, h⟩ := s.closeExchange_shape i n
  rw [h]
  simp [State.setTill, State.tables]

theorem State.closeExchange_entry (s : State) (i : Fin 128) (n : Nat) :
    (s.closeExchange i n).tills[i] = { s.tills[i] with exchange := none } := by
  obtain ⟨sl, w, v, m, fr, fs, h⟩ := s.closeExchange_shape i n
  rw [h]
  simp

theorem State.clearCounters_tables (s : State) : s.clearCounters.tables = s.tables :=
  State.tables_eq_iff.mpr ⟨rfl, rfl, rfl, rfl, rfl, fun i => by
    simp [State.clearCounters, TillEntry.zeroStats, TillEntry.written]⟩

/-! ## Settings (Table 9-5) -/

theorem settingsLaw_keeps : Keeps State.SettingsLaw := by
  have same : ∀ {a b : State}, b.settings = a.settings → a.SettingsLaw → b.SettingsLaw := by
    intro a b h law
    rwa [State.SettingsLaw, h]
  have tables : ∀ {a b : State}, b.tables = a.tables → a.SettingsLaw → b.SettingsLaw := fun h =>
    same (State.tables_eq_iff.mp h).2.2.1
  have till : ∀ (a : State) (i : Fin 128) (e : TillEntry), ((a.closeExchange i 0).setTill i e).settings = a.settings :=
    fun a i e => (State.tables_eq_iff.mp (State.closeExchange_setTill_tables a i 0 e)).2.2.1
  refine .of_tables tables ?_ fun a => (by decide : State.reset.SettingsLaw)
  exact
    { writeSettings := fun {a _ _} h e => by
        obtain ⟨x, parsed, rfl⟩ := a.writeSettings_ok e
        exact parseSettings_ranges parsed
      writeTill := fun h e => by
        obtain ⟨i, f, _, _, _, rfl⟩ := State.writeTill_ok e
        exact same (till _ i _) h
      clearTill := fun h e => by
        obtain ⟨i, _, rfl⟩ := State.clearTill_ok e
        exact same (till _ i _) h
      writeRule := fun h e => by obtain ⟨i, r, _, rfl⟩ := State.writeRule_ok e; exact h
      clearRule := fun h e => by obtain ⟨i, _, rfl⟩ := State.clearRule_ok e; exact h
      writeLocator := fun h e => by obtain ⟨i, l, _, rfl⟩ := State.writeLocator_ok e; exact h
      clearLocator := fun h e => by obtain ⟨i, _, rfl⟩ := State.clearLocator_ok e; exact h
      writeDestination := fun h e => by obtain ⟨i, _, rfl⟩ := State.writeDestination_ok e; exact h
      clearDestination := fun h e => by obtain ⟨i, _, rfl⟩ := State.clearDestination_ok e; exact h
      discardStage := fun h e => tables (State.tables_of_byItems (State.discardStage_byItems e)) h
      writeEventMap := fun h e => by obtain ⟨m, _, _, rfl⟩ := State.writeEventMap_ok e; exact h
      clearCounters := fun h => tables (State.clearCounters_tables _) h }

/-! ## Rules and locators (section 2.4) -/

theorem State.RuleLaw.set_rule {s : State} (law : s.RuleLaw) (i : Fin 16) {r : Rule}
    (names : r.valid = true → s.locators[r.locator].valid = true) :
    ({ s with rules := s.rules.set i r } : State).RuleLaw := by
  intro j
  simp only [getElem_set_fin]
  split
  · exact names
  · exact law j

theorem State.RuleLaw.set_locator {s : State} (law : s.RuleLaw) (i : Fin 8) {l : Locator}
    (free : l.valid = true ∨ s.locatorNamed i = false) :
    ({ s with locators := s.locators.set i l } : State).RuleLaw := by
  intro j valid
  rw [getElem_set_fin]
  split
  next named =>
    exact free.resolve_right fun free => State.locatorNamed_eq_false_iff.mp free j valid named.symm
  · exact law j valid

theorem ruleLaw_keeps : Keeps State.RuleLaw := by
  have same : ∀ {a b : State}, b.rules = a.rules → b.locators = a.locators → a.RuleLaw → b.RuleLaw := by
    intro a b h k law
    simpa only [State.RuleLaw, h, k] using law
  have tables : ∀ {a b : State}, b.tables = a.tables → a.RuleLaw → b.RuleLaw := fun h =>
    same (State.tables_eq_iff.mp h).1 (State.tables_eq_iff.mp h).2.1
  have till : ∀ {a : State} (i : Fin 128) (e : TillEntry), a.RuleLaw →
      ((a.closeExchange i 0).setTill i e).RuleLaw := fun {a} i e h =>
    tables (a.closeExchange_setTill_tables i 0 e) (same (a := a) rfl rfl h)
  refine .of_tables tables ?_ fun a => by simp [State.coldStart, State.RuleLaw, Rule.cold]
  exact
    { writeSettings := fun h e => by obtain ⟨x, _, rfl⟩ := State.writeSettings_ok e; exact h
      writeTill := fun h e => by obtain ⟨i, f, _, _, _, rfl⟩ := State.writeTill_ok e; exact till i _ h
      clearTill := fun h e => by obtain ⟨i, _, rfl⟩ := State.clearTill_ok e; exact till i _ h
      writeRule := fun h e => by obtain ⟨i, r, names, rfl⟩ := State.writeRule_ok e; exact h.set_rule i names
      clearRule := fun h e => by
        obtain ⟨i, _, rfl⟩ := State.clearRule_ok e
        exact h.set_rule i fun valid => by simp [Rule.cold] at valid
      writeLocator := fun h e => by obtain ⟨i, l, free, rfl⟩ := State.writeLocator_ok e; exact h.set_locator i free
      clearLocator := fun h e => by
        obtain ⟨i, free, rfl⟩ := State.clearLocator_ok e
        exact h.set_locator i (.inr free)
      writeDestination := fun h e => by obtain ⟨i, _, rfl⟩ := State.writeDestination_ok e; exact h
      clearDestination := fun h e => by obtain ⟨i, _, rfl⟩ := State.clearDestination_ok e; exact h
      discardStage := fun h e => tables (State.tables_of_byItems (State.discardStage_byItems e)) h
      writeEventMap := fun h e => by obtain ⟨m, _, _, rfl⟩ := State.writeEventMap_ok e; exact h
      clearCounters := fun h => tables (State.clearCounters_tables _) h }

/-! ## The event map (R193) -/

theorem mapLaw_keeps : Keeps State.MapLaw := by
  have same : ∀ {a b : State}, b.eventMap = a.eventMap → a.MapLaw → b.MapLaw := by
    intro a b h law
    rwa [State.MapLaw, h]
  have tables : ∀ {a b : State}, b.tables = a.tables → a.MapLaw → b.MapLaw := fun h =>
    same (State.tables_eq_iff.mp h).2.2.2.2.1
  have till : ∀ {a : State} (i : Fin 128) (e : TillEntry), a.MapLaw →
      ((a.closeExchange i 0).setTill i e).MapLaw := fun {a} i e h =>
    tables (a.closeExchange_setTill_tables i 0 e) (same (a := a) rfl h)
  refine .of_tables tables ?_ fun a => by simp [State.coldStart, State.MapLaw]
  exact
    { writeSettings := fun h e => by obtain ⟨x, _, rfl⟩ := State.writeSettings_ok e; exact h
      writeTill := fun h e => by obtain ⟨i, f, _, _, _, rfl⟩ := State.writeTill_ok e; exact till i _ h
      clearTill := fun h e => by obtain ⟨i, _, rfl⟩ := State.clearTill_ok e; exact till i _ h
      writeRule := fun h e => by obtain ⟨i, r, _, rfl⟩ := State.writeRule_ok e; exact h
      clearRule := fun h e => by obtain ⟨i, _, rfl⟩ := State.clearRule_ok e; exact h
      writeLocator := fun h e => by obtain ⟨i, l, _, rfl⟩ := State.writeLocator_ok e; exact h
      clearLocator := fun h e => by obtain ⟨i, _, rfl⟩ := State.clearLocator_ok e; exact h
      writeDestination := fun h e => by obtain ⟨i, _, rfl⟩ := State.writeDestination_ok e; exact h
      clearDestination := fun h e => by obtain ⟨i, _, rfl⟩ := State.clearDestination_ok e; exact h
      discardStage := fun h e => tables (State.tables_of_byItems (State.discardStage_byItems e)) h
      writeEventMap := fun h e => by
        obtain ⟨m, _, apart, rfl⟩ := State.writeEventMap_ok e
        exact mapShares_eq_false_iff.mp apart
      clearCounters := fun h => tables (State.clearCounters_tables _) h }

/-! ## Tills (R44) -/

theorem State.TillLaw.congr {a b : State} (h : ∀ i : Fin 128, b.tills[i].written = a.tills[i].written)
    (law : a.TillLaw) : b.TillLaw := by
  intro i j apart
  obtain ⟨validI, numberI, ipI, _⟩ := TillEntry.written_eq_iff.mp (h i)
  obtain ⟨validJ, numberJ, ipJ, _⟩ := TillEntry.written_eq_iff.mp (h j)
  rw [validI, validJ, numberI, numberJ, ipI, ipJ]
  exact law i j apart

theorem State.tillTaken_eq_false_iff {s : State} {i : Fin 128} {f : TillFields} :
    s.tillTaken i f = false ↔ ∀ j : Fin 128, j ≠ i → s.tills[j].valid = true →
      s.tills[j].ip ≠ f.ip ∧ s.tills[j].number ≠ f.number := by
  simp [State.tillTaken]

/-- An entry whose address and number no other valid entry holds may take the place of another. -/
theorem State.TillLaw.set {s : State} (law : s.TillLaw) (i : Fin 128) {e : TillEntry}
    (free : e.valid = true → ∀ j : Fin 128, j ≠ i → s.tills[j].valid = true →
      s.tills[j].ip ≠ e.ip ∧ s.tills[j].number ≠ e.number) : (s.setTill i e).TillLaw := by
  intro j k apart validJ validK
  simp only [State.setTill_tills, getElem_set_fin] at validJ validK ⊢
  split at validJ
  next hj =>
    subst hj
    rw [if_neg apart] at validK ⊢
    have := free validJ k (Ne.symm apart) validK
    simpa using ⟨this.1.symm, this.2.symm⟩
  next hj =>
    rw [if_neg hj]
    split at validK
    next hk =>
      subst hk
      simpa using free validK j (Ne.symm hj) validJ
    next hk =>
      rw [if_neg hk]
      exact law j k apart validJ validK

theorem tillLaw_keeps : Keeps State.TillLaw := by
  have tables : ∀ {a b : State}, b.tables = a.tables → a.TillLaw → b.TillLaw := fun h =>
    .congr (State.tables_eq_iff.mp h).2.2.2.2.2
  have till : ∀ {a : State} (i : Fin 128) (e : TillEntry), (a.setTill i e).TillLaw →
      ((a.closeExchange i 0).setTill i e).TillLaw := fun {a} i e h => tables (a.closeExchange_setTill_tables i 0 e) h
  refine .of_tables tables ?_ fun a => by simp [State.coldStart, State.TillLaw, TillEntry.cold]
  exact
    { writeSettings := fun h e => by obtain ⟨x, _, rfl⟩ := State.writeSettings_ok e; exact h
      writeTill := fun {a _ _} h e => by
        obtain ⟨i, f, _, _, free, rfl⟩ := State.writeTill_ok e
        refine till i _ (h.set i fun _ => ?_)
        simpa [TillEntry.write] using State.tillTaken_eq_false_iff.mp free
      clearTill := fun h e => by
        obtain ⟨i, _, rfl⟩ := State.clearTill_ok e
        exact till i _ (h.set i fun valid => by simp [TillEntry.cold] at valid)
      writeRule := fun h e => by obtain ⟨i, r, _, rfl⟩ := State.writeRule_ok e; exact h
      clearRule := fun h e => by obtain ⟨i, _, rfl⟩ := State.clearRule_ok e; exact h
      writeLocator := fun h e => by obtain ⟨i, l, _, rfl⟩ := State.writeLocator_ok e; exact h
      clearLocator := fun h e => by obtain ⟨i, _, rfl⟩ := State.clearLocator_ok e; exact h
      writeDestination := fun h e => by obtain ⟨i, _, rfl⟩ := State.writeDestination_ok e; exact h
      clearDestination := fun h e => by obtain ⟨i, _, rfl⟩ := State.clearDestination_ok e; exact h
      discardStage := fun h e => tables (State.tables_of_byItems (State.discardStage_byItems e)) h
      writeEventMap := fun h e => by obtain ⟨m, _, _, rfl⟩ := State.writeEventMap_ok e; exact h
      clearCounters := fun h => tables (State.clearCounters_tables _) h }

/-! ## The management keys (section 9.5) -/

/-- No item's rule writes the management keys. -/
theorem mgmtKeys_itemRules (k : MgmtKeys) : ItemRules fun s => s.mgmtKeys = k := by
  have till : ∀ (a : State) (i : Fin 128) (e : TillEntry),
      ((a.closeExchange i 0).setTill i e).mgmtKeys = a.mgmtKeys := fun a i e =>
    (State.mgmtKeys_of_byItems (a.closeExchange_byItems i 0) : _)
  exact
    { writeSettings := fun h e => by obtain ⟨x, _, rfl⟩ := State.writeSettings_ok e; exact h
      writeTill := fun h e => by obtain ⟨i, f, _, _, _, rfl⟩ := State.writeTill_ok e; exact (till _ i _).trans h
      clearTill := fun h e => by obtain ⟨i, _, rfl⟩ := State.clearTill_ok e; exact (till _ i _).trans h
      writeRule := fun h e => by obtain ⟨i, r, _, rfl⟩ := State.writeRule_ok e; exact h
      clearRule := fun h e => by obtain ⟨i, _, rfl⟩ := State.clearRule_ok e; exact h
      writeLocator := fun h e => by obtain ⟨i, l, _, rfl⟩ := State.writeLocator_ok e; exact h
      clearLocator := fun h e => by obtain ⟨i, _, rfl⟩ := State.clearLocator_ok e; exact h
      writeDestination := fun h e => by obtain ⟨i, _, rfl⟩ := State.writeDestination_ok e; exact h
      clearDestination := fun h e => by obtain ⟨i, _, rfl⟩ := State.clearDestination_ok e; exact h
      discardStage := fun h e => (State.mgmtKeys_of_byItems (State.discardStage_byItems e)).trans h
      writeEventMap := fun h e => by obtain ⟨m, _, _, rfl⟩ := State.writeEventMap_ok e; exact h
      clearCounters := fun h => h }

/-- A command that is no start or erase and ends no response keeps the management keys. -/
theorem exec_mgmtKeys {c : Instr} {s t : State} (e : exec c s = .next t) (start : starts c = false)
    (ends : endsResponse c = false) : t.mgmtKeys = s.mgmtKeys := by
  have same : ∀ {a b : State}, b.byItems = a.byItems → a.mgmtKeys = s.mgmtKeys → b.mgmtKeys = s.mgmtKeys :=
    fun h k => (State.mgmtKeys_of_byItems h).trans k
  exact Ordinary.exec_keeps (P := fun a => a.mgmtKeys = s.mgmtKeys) (.of_byItems same) (mgmtKeys_itemRules _)
    (fun _ => .of_byItems same) (fun h => absurd h (by simp [ends])) (fun h => absurd h (by simp [start])) rfl e

/-- A start or an erase keeps the management keys or leaves the factory keys (R2, R176). -/
theorem exec_start_mgmtKeys {c : Instr} {s t : State} (e : exec c s = .next t) (start : starts c = true) :
    t.mgmtKeys = s.mgmtKeys ∨ t.mgmtKeys = s.factory.keys := by
  cases c <;> cases start
  case powerOnReset =>
    cases e
    rw [(conclude_settles ..).mgmtKeys]
    split
    · refine .inr (State.eraseAll_mgmtKeys _ |>.trans ?_)
      unfold State.powerStart
      split <;> rfl
    · unfold State.powerStart
      split
      · exact .inl rfl
      · exact .inr rfl
  case eraseLineAsserted =>
    change execEraseLineAsserted s = .next t at e
    unfold execEraseLineAsserted at e
    split at e <;> cases e
    · exact .inl rfl
    · exact .inr ((conclude_settles ..).mgmtKeys.trans (State.eraseAll_mgmtKeys _))
  case erase =>
    rcases itemEvent_cases true (· == 29) (fun s _ item => s.dropStage.eraseAll.answer item.kind .done []) s with
      ⟨_, n⟩ | ⟨c, item, _, _, ⟨r, _, n⟩ | ⟨_, n⟩⟩ <;> cases n.symm.trans e
    · exact .inl rfl
    · exact .inl (conclude_settles ..).mgmtKeys
    · refine .inr ((conclude_settles ..).mgmtKeys.trans ((State.eraseAll_mgmtKeys _).trans ?_))
      rw [State.dropStage_eq]

/-- Where a response can end, the keys held stay or are committed (R175, R178). -/
theorem exec_end_mgmtKeys {c : Instr} {s t : State} (e : exec c s = .next t) (ends : endsResponse c = true) :
    t.mgmtKeys = s.mgmtKeys ∨ s.context.bind (·.pendingKeys) = some t.mgmtKeys := by
  have moved : ∀ {u : State}, EndsOrKeeps s u → t.mgmtKeys = u.mgmtKeys →
      t.mgmtKeys = s.mgmtKeys ∨ s.context.bind (·.pendingKeys) = some t.mgmtKeys := by
    intro u h k
    rw [k]
    by_cases same : u.mgmtKeys = s.mgmtKeys
    · exact .inl same
    · exact .inr (h.pending same)
  cases c <;> cases ends
  case linkDown p =>
    change execLinkDown p s = .next t at e
    unfold execLinkDown at e
    split at e <;> cases e
    · exact .inl rfl
    · exact moved (s.linkLost_keysHeld p) (concludeResponse_mgmtKeys _ _)
  case transmissionComplete p =>
    change execTransmissionComplete p s = .next t at e
    unfold execTransmissionComplete at e
    split at e <;> cases e
    · exact .inl rfl
    · exact moved (.trans (.trans (.of_eq (s.setPort_keysHeld p _)) (State.releaseSent_keysHeld _ p _))
        (.of_eq (State.arbiter_keysHeld _ p))) (concludeResponse_mgmtKeys _ _)
  case responseTagResult =>
    change execResponseTagResult s = .next t at e
    unfold execResponseTagResult at e
    split at e <;> cases e
    · exact .inl rfl
    · exact moved (.trans (.of_eq (s.finishLane_keysHeld _)) (State.tagResponse_keysHeld _ _))
        (concludeResponse_mgmtKeys _ _)

end Sys2Proof.Machine
end

section
/-! The laws of the tables, and section 9.5: the management keys. -/

open Sys2Proof Sys2Proof.Machine

/-- Settles O10: no operation but an item's rule or a cold start writes the tables, and each rule that does keeps its
law. -/
theorem ruleAndMapLawsAreKept : Obligations.RuleAndMapLawsAreKept := fun _ _ step =>
  ⟨fun law => ruleLaw_keeps.step law step, fun law => mapLaw_keeps.step law step,
    fun law => settingsLaw_keeps.step law step⟩

/-- Settles O9: a till's address and number are written by WRITE_TILL alone, after its check for duplicates. -/
theorem tillsStayDistinct : Obligations.TillsStayDistinct := fun _ _ law step => tillLaw_keeps.step law step

/-- Settles O6: the keys move at a start or an erase, to the factory keys, and where a response ends, to the pending
ones; every other command keeps them. -/
theorem managementKeysChangeOnlyAt : Obligations.ManagementKeysChangeOnlyAt := by
  intro c s t e moved
  cases start : starts c with
  | true =>
    refine .inl ⟨?_, (exec_start_mgmtKeys e start).resolve_left moved⟩
    cases c <;> simp_all [starts]
  | false =>
    cases ends : endsResponse c with
    | true =>
      refine .inr ⟨?_, (exec_end_mgmtKeys e ends).resolve_left moved⟩
      cases c <;> simp_all [endsResponse]
    | false => exact absurd (exec_mgmtKeys e start ends) moved
end

section
/-! SUPPORT. The levels outside events, and the starts. -/

namespace Sys2Proof.Machine

/-! ## Outcomes -/

/-- Every command answers a next state, which stands but for the uptime counter (R1). -/
theorem exec_next (c : Instr) (s : State) : ∃ t, exec c s = .next t ∧ t.pending = s.pending ∧ t.factory = s.factory := by
  by_cases tick : c = .uptimeTick
  · subst tick
    exact ⟨_, rfl, rfl, rfl⟩
  · by_cases start : c = .powerOnReset
    · subst start
      refine ⟨_, rfl, ?_⟩
      obtain ⟨t, e, standing⟩ := execPowerOnReset_standing s
      cases e
      simp only [State.standing, Prod.mk.injEq] at standing
      exact ⟨standing.1, standing.2.1⟩
    · obtain ⟨t, e, standing⟩ := exec_stands s c tick start
      have kept := State.standing_eq_iff.mp standing
      exact ⟨t, e, kept.1, kept.2.1⟩

/-! ## Level statuses (R190) -/

/-- A state whose links, queue, free list, key store, warn margin and tills are the same, and whose statuses are, keeps
the law of the levels. -/
theorem State.LevelLaw.congr {a b : State} (law : a.LevelLaw) (status : b.status = a.status)
    (conditions : ∀ e, b.condition e = a.condition e) : b.LevelLaw := by
  intro e level
  rw [conditions, law e level]
  simp only [State.statusOf, status]

/-- A till's validity and slot are all that the levels read of it (R78). -/
theorem State.condition_of_tills {a b : State} (others : b = { a with uptime := b.uptime, tills := b.tills })
    (tills : b.tills.map TillEntry.written = a.tills.map TillEntry.written) (e : EventSource) :
    b.condition e = a.condition e := by
  rw [others]
  cases e with
  | noLiveKey =>
    have noLive : ∀ v : Vector TillEntry 128,
        (v.toList.any fun t => t.valid && (a.slots[t.slot]).live.isNone) =
          (v.map TillEntry.written).toList.any fun w => w.1 && (a.slots[w.2.2.2.2.1]).live.isNone := fun v => by
      rw [Vector.toList_map, List.any_map]
      rfl
    simp only [State.condition, noLive, tills]
  | _ => rfl

/-- `t` is `s`, or follows the end of an event that began in `s`. -/
inductive Ended (s : State) : State → Prop where
  | same : Ended s s
  | event (start : Bool) (a : State) : Ended s (conclude start s a)

theorem Ended.levelLaw {s t : State} (law : s.LevelLaw) (h : Ended s t) : t.LevelLaw := by
  cases h with
  | same => exact law
  | event start a => exact (conclude_settles start s a).levels

section
variable {s t : State} {code : Nat}

theorem itemEvent_ends {start : Bool} {p : Nat → Bool} {act : State → Context → Item → State}
    (e : itemEvent start p act s = .next t) : Ended s t := by
  rcases itemEvent_cases start p act s with ⟨_, n⟩ | ⟨c, item, _, _, ⟨r, _, n⟩ | ⟨_, n⟩⟩ <;> cases n.symm.trans e
  · exact .same
  · exact .event ..
  · exact .event ..

theorem writeItem_ends {rule : State → Bytes → Except ResultCode State} (e : writeItem code rule s = .next t) :
    Ended s t := itemEvent_ends e

theorem readItem_ends {rule : State → Bytes → Except ResultCode Bytes} (e : readItem code rule s = .next t) :
    Ended s t := itemEvent_ends e

end

/-- A command ends an event, or it changes a pin, moves the clock or notes an expiry. -/
theorem exec_ends {c : Instr} {s t : State} (e : exec c s = .next t) :
    Ended s t ∨ t = { s with storeValid := t.storeValid, eraseLine := t.eraseLine } ∨
      t = { s.tickTills with uptime := t.uptime } ∨
      ∃ i x, s.tills[i].exchange = some x ∧
        t = s.setExchange i (some { x with expiredWhileVerifying := true }) := by
  cases c with
  | powerOnReset | eraseLineAsserted | linkUp | linkDown | frameReceived | transmissionComplete | wrapCompletion
  | verifyCompletion | mgmtTagResult | keyUnwrapResult | responseCompletion | responseTagResult =>
    refine .inl ?_
    unfold exec at e
    simp only [execPowerOnReset, execEraseLineAsserted, execLinkUp, execLinkDown, execFrameReceived,
      execTransmissionComplete, execWrapCompletion, execVerifyCompletion, execMgmtTagResult, execKeyUnwrapResult,
      execResponseCompletion, execResponseTagResult, concludeResponse] at e
    repeat' split at e
    all_goals
      obtain rfl := Host.Outcome.next.inj e
      constructor
  | eraseLineDeasserted | batterySupplyLost => cases e; exact .inr (.inl rfl)
  | uptimeTick => cases e; exact .inr (.inr (.inl rfl))
  | deadlineExpiry i =>
    change execDeadlineExpiry i s = .next t at e
    unfold execDeadlineExpiry at e
    split at e
    · cases e; exact .inl .same
    next x open_ =>
      repeat' split at e
      all_goals cases e
      · exact .inl .same
      · exact .inl (.event ..)
      · exact .inl (.event ..)
      · exact .inr (.inr (.inr ⟨i, x, open_, rfl⟩))
  | readSettings => exact .inl (readItem_ends (by unfold exec execReadSettings at e; exact e))
  | readTill => exact .inl (readItem_ends (by unfold exec execReadTill at e; exact e))
  | readRule => exact .inl (readItem_ends (by unfold exec execReadRule at e; exact e))
  | readLocator => exact .inl (readItem_ends (by unfold exec execReadLocator at e; exact e))
  | readDestination => exact .inl (readItem_ends (by unfold exec execReadDestination at e; exact e))
  | readSlot => exact .inl (readItem_ends (by unfold exec execReadSlot at e; exact e))
  | readEvents => exact .inl (readItem_ends (by unfold exec execReadEvents at e; exact e))
  | readCounters => exact .inl (readItem_ends (by unfold exec execReadCounters at e; exact e))
  | writeSettings => exact .inl (writeItem_ends (by unfold exec execWriteSettings at e; exact e))
  | writeTill => exact .inl (writeItem_ends (by unfold exec execWriteTill at e; exact e))
  | clearTill => exact .inl (writeItem_ends (by unfold exec execClearTill at e; exact e))
  | writeRule => exact .inl (writeItem_ends (by unfold exec execWriteRule at e; exact e))
  | clearRule => exact .inl (writeItem_ends (by unfold exec execClearRule at e; exact e))
  | writeLocator => exact .inl (writeItem_ends (by unfold exec execWriteLocator at e; exact e))
  | clearLocator => exact .inl (writeItem_ends (by unfold exec execClearLocator at e; exact e))
  | writeDestination => exact .inl (writeItem_ends (by unfold exec execWriteDestination at e; exact e))
  | clearDestination => exact .inl (writeItem_ends (by unfold exec execClearDestination at e; exact e))
  | stageOpen => exact .inl (itemEvent_ends (by unfold exec execStageOpen at e; exact e))
  | stageKeys => exact .inl (itemEvent_ends (by unfold exec execStageKeys at e; exact e))
  | switch => exact .inl (writeItem_ends (by unfold exec execSwitch at e; exact e))
  | retire => exact .inl (writeItem_ends (by unfold exec execRetire at e; exact e))
  | discardStage => exact .inl (writeItem_ends (by unfold exec execDiscardStage at e; exact e))
  | writeEventMap => exact .inl (writeItem_ends (by unfold exec execWriteEventMap at e; exact e))
  | writeEventEnables => exact .inl (writeItem_ends (by unfold exec execWriteEventEnables at e; exact e))
  | clearEvents => exact .inl (writeItem_ends (by unfold exec execClearEvents at e; exact e))
  | clearCounters => exact .inl (writeItem_ends (by unfold exec execClearCounters at e; exact e))
  | loadMgmtKeys => exact .inl (itemEvent_ends (by unfold exec execLoadMgmtKeys at e; exact e))
  | restart => exact .inl (itemEvent_ends (by unfold exec execRestart at e; exact e))
  | erase => exact .inl (itemEvent_ends (by unfold exec execErase at e; exact e))
  | unknownItemKind => exact .inl (itemEvent_ends (by unfold exec execUnknownItemKind at e; exact e))

/-- R190: the law of the levels holds after every event, and where no event ends nothing that it reads moves. -/
theorem exec_levelLaw {c : Instr} {s t : State} (law : s.LevelLaw) (e : exec c s = .next t) : t.LevelLaw := by
  rcases exec_ends e with ended | pins | tick | ⟨i, x, _, rfl⟩
  · exact ended.levelLaw law
  · rw [pins]
    exact law.congr rfl fun e => by cases e <;> rfl
  · rw [tick]
    exact law.congr rfl (State.condition_of_tills (a := s) rfl (congrArg (·.1.2.2.2.2.2) s.tickTills_byItems))
  · exact law.congr rfl (State.condition_of_tills rfl (congrArg (·.1.2.2.2.2.2) (s.setExchange_byItems i _)))

/-! ## The starts (R2, R82) -/

/-- The levels evaluated on a status vector of their own. -/
theorem State.levelled_congr {a b : State} (status : b.status = a.status)
    (conditions : ∀ e, b.condition e = a.condition e) : b.levelled = a.levelled := by
  simp only [State.levelled, State.evalLevels, conditions, status]

theorem State.coldStart_levelled (s : State) : s.coldStart.levelled = State.reset.status := by
  have conditions : ∀ e, s.coldStart.condition e =
      ({ State.reset with status := Vector.replicate 18 false } : State).condition e := fun e =>
    State.condition_congr _ _ e rfl rfl rfl rfl rfl rfl rfl rfl
  exact (State.levelled_congr (a := { State.reset with status := Vector.replicate 18 false }) rfl conditions).trans
    (by decide +kernel)

/-- R2: a cold start ends with the cold levels, and asks for no notice. -/
theorem conclude_coldStart (start : Bool) (before s : State) :
    conclude start before s.coldStart = { s.coldStart with status := State.reset.status } := by
  rw [conclude_quiet _ _ _ rfl, State.evalLevels_eq, State.coldStart_levelled]

/-- R82: a bank over a start. -/
theorem KeyBank.afterStart_kept (b : KeyBank) : b.KeptOverStart b.afterStart := by
  unfold KeyBank.afterStart
  cases state : b.state <;> simp [KeyBank.KeptOverStart, state]

theorem KeySlot.afterStart_bank (k : KeySlot) (b : BankId) : k.afterStart.bank b = (k.bank b).afterStart := by
  cases b <;> rfl

theorem State.loseWork_bank (s : State) (k : Fin 16) (b : BankId) :
    s.loseWork.bank k b = (s.bank k b).afterStart := by
  simp [State.loseWork, State.bank, KeySlot.afterStart_bank]

theorem SettlesTo.slots {a t : State} (h : SettlesTo a t) : t.slots = a.slots := by
  rw [h.others]

/-- A state that settles from one that has lost its work, whose banks are those of `a` over a start. -/
theorem LosesWork.of_settles {a u t : State} {linkT linkL : Link} (h : SettlesTo u t)
    (work : u = a.withoutWork linkT linkL u.slots)
    (banks : ∀ k b, (a.bank k b).KeptOverStart (u.bank k b)) : LosesWork a t linkT linkL := by
  refine ⟨?_, fun k b => ?_⟩
  · rw [h.slots, ← work]
    exact h
  · have bank : t.bank k b = u.bank k b := by simp only [State.bank, h.slots]
    rw [bank]
    exact banks k b

/-- A restart loses the work (R82, R184). -/
theorem losesWork_of_loseWork (start : Bool) (before a : State) :
    LosesWork a (conclude start before a.loseWork) a.portT.link a.portL.link :=
  .of_settles (conclude_settles ..) rfl fun k b => by
    rw [State.loseWork_bank]
    exact KeyBank.afterStart_kept _

end Sys2Proof.Machine
end

section
/-! One step, and rules of the whole machine. -/

open Sys2Proof Sys2Proof.Machine

/-- Settles O1: a step is defined so. -/
theorem stepRunsFrontCommand : Obligations.StepRunsFrontCommand := by
  intro s c rest front
  simp only [step, front]

/-- Settles O2: the power-on start and the tick answer their next state, and every other command answers one that stands
as the state did. -/
theorem everyCommandAnswersNext : Obligations.EveryCommandAnswersNext := exec_next

/-- Settles O17: the end of every event evaluates the levels; the commands that end no event leave the conditions and the
statuses. -/
theorem levelStatusesFollowConditions : Obligations.LevelStatusesFollowConditions := by
  intro s t law e
  unfold step at e
  split at e
  · cases e; exact law
  next rest _ =>
    have popped : ({ s with pending := rest } : State).LevelLaw := law.congr rfl fun e => by cases e <;> rfl
    exact exec_levelLaw popped e
end

section
/-! Starts, the pins and the clock. -/

open Sys2Proof Sys2Proof.Machine

/-- Settles O19: a cold start writes the cold values, and its event ends with the levels of two DOWN links. -/
theorem coldStartLeavesTheColdValues : Obligations.ColdStartLeavesTheColdValues := by
  intro s invalid deasserted
  have start : s.powerStart = s.coldStart := by simp [State.powerStart, invalid]
  unfold exec execPowerOnReset
  rw [if_neg (by simp [deasserted]), start, conclude_coldStart]
  simp only [State.coldStart, State.warmStart, State.loseWork, State.clearEngine, deasserted]
  rfl

/-- Settles O20: a warm start is a loss of work with both links DOWN, uptime and counters 0. -/
theorem warmStartLosesTheWorkingState : Obligations.WarmStartLosesTheWorkingState := by
  intro s valid deasserted
  have start : s.powerStart = s.warmStart := by simp [State.powerStart, valid]
  unfold exec execPowerOnReset
  rw [if_neg (by simp [deasserted]), start]
  exact ⟨_, rfl, .of_settles (conclude_settles ..) rfl fun k b =>
    (s.loseWork_bank k b).symm ▸ KeyBank.afterStart_kept _⟩

/-- Settles O22: each of the four commands is one update of the state. -/
theorem pinsAndTheTick : Obligations.PinsAndTheTick := by
  intro s
  refine ⟨rfl, rfl, fun asserted => ?_, _, rfl, rfl, ?_, fun i => ?_⟩
  · simp [exec, execEraseLineAsserted, asserted]
  · exact BitVec.toNat_add s.uptime 1
  · cases open_ : s.tills[i].exchange <;> simp_all [Exchange.tick]

/-- Settles O23: the two outcomes of an expiry are the branches of its command. -/
theorem expiryClosesAsLostOrIsNoted : Obligations.ExpiryClosesAsLostOrIsNoted := by
  intro s i x open_ zero
  show ∃ t, execDeadlineExpiry i s = .next t ∧ _
  cases phase : x.phase with
  | verifying =>
    have noted : execDeadlineExpiry i s = .next (s.setExchange i (some { x with expiredWhileVerifying := true })) := by
      simp only [execDeadlineExpiry, open_, zero, phase, ne_eq, not_true_eq_false, if_false]
    exact ⟨_, noted, fun _ => by rw [← phase]; rfl, fun other => absurd rfl other⟩
  | admitted | awaiting =>
    have lost : execDeadlineExpiry i s = .next (conclude false s (s.closeLost i x 0)) := by
      simp only [execDeadlineExpiry, open_, zero, phase, ne_eq, not_true_eq_false, if_false]
    exact ⟨_, lost, nofun, fun _ => conclude_settles ..⟩
end

section
/-! R189, R197, R51: latches, counters and statistics. -/

open Sys2Proof Sys2Proof.Machine

/-- Settles O24: a latch writes one status; a gain is one entry of its table, and a status where it reaches the
maximum. -/
theorem countersGainAndSaturate : Obligations.CountersGainAndSaturate := by
  intro s
  refine ⟨fun e => rfl, fun c => ?_, fun i k => ?_⟩
  · have saturates : s.counters[c.idx] + 1 = Config.counterMax ↔ s.counters[c.idx] = 4294967294 := by
      unfold Config.counterMax
      omega
    rw [State.bump_eq]
    refine ⟨rfl, ?_, fun d other => ?_, by simp only [saturates]⟩
    · simp [Config.counterMax]
    · rw [getElem_set_fin, if_neg (Ne.symm other)]
  · have saturates : s.tills[i].stat k + 1 = Config.statMax ↔ s.tills[i].stat k = 65534 := by
      unfold Config.statMax
      omega
    rw [State.bumpStat_eq]
    refine ⟨rfl, ?_, fun j other => ?_, by simp only [saturates]⟩
    · simp [Config.statMax]
    · rw [getElem_set_fin, if_neg (Ne.symm other)]
end

section
/-! SUPPORT. The engine, the exchanges and the banks: what the operations on ports, buffers, statuses and counters leave
alone, and when a law of them is kept by every command. -/

namespace Sys2Proof.Machine

/-! ## What output leaves -/

/-- The engine's jobs, the banks and the exchange records. -/
def State.work (s : State) : List Job × Vector (Option Running) 4 × Option Job × Nat × Vector KeySlot 16 ×
    Vector (Option Exchange) 128 :=
  (s.waiting, s.lanes, s.mgmtWaiting, s.nextJob, s.slots, s.tills.map TillEntry.exchange)

/-- The exchange records are the same one by one. -/
theorem tills_exchange_eq_iff {v w : Vector TillEntry 128} :
    w.map TillEntry.exchange = v.map TillEntry.exchange ↔ ∀ i : Fin 128, w[i].exchange = v[i].exchange := by
  refine ⟨fun h i => ?_, fun h => Vector.ext fun i hi => ?_⟩
  · simpa using congrArg (·[i]) h
  · simpa using h ⟨i, hi⟩

theorem State.work_eq_iff {a b : State} :
    b.work = a.work ↔ b.waiting = a.waiting ∧ b.lanes = a.lanes ∧ b.mgmtWaiting = a.mgmtWaiting ∧
      b.nextJob = a.nextJob ∧ b.slots = a.slots ∧ ∀ i : Fin 128, b.tills[i].exchange = a.tills[i].exchange := by
  simp [State.work, tills_exchange_eq_iff]

variable (s : State)

/-- A till replaced by one with the same exchange record. -/
theorem State.work_of_set {i : Fin 128} {e : TillEntry} (same : e.exchange = s.tills[i].exchange) :
    ({ s with tills := s.tills.set i e } : State).work = s.work := by
  refine State.work_eq_iff.mpr ⟨rfl, rfl, rfl, rfl, rfl, fun j => ?_⟩
  rw [getElem_set_fin]
  split
  next h => subst h; exact same
  · rfl

theorem State.Aside.work {a b : State} (h : a.Aside b) : b.work = a.work := by
  rw [h]; rfl

theorem NoticeStep.work {a t : State} (h : NoticeStep a t) : t.work = a.work := by
  rw [h.others]; rfl

theorem SettlesTo.work {a t : State} (h : SettlesTo a t) : t.work = a.work := by
  rw [h.others]; rfl

@[simp] theorem TillEntry.setStat_exchange (e : TillEntry) (k : Stat) (n : Nat) :
    (e.setStat k n).exchange = e.exchange := by
  cases k <;> rfl

@[simp] theorem State.setPort_work (p : PortId) (x : PortState) : (s.setPort p x).work = s.work := by
  cases p <;> rfl

@[simp] theorem State.setReceive_work (p : PortId) (f : Option Bytes) : (s.setReceive p f).work = s.work :=
  s.setPort_work p _

@[simp] theorem State.freeFrame_work (i : Fin 64) : (s.freeFrame i).work = s.work := rfl

@[simp] theorem State.latch_work (e : EventSource) : (s.latch e).work = s.work := rfl

@[simp] theorem State.bump_work (c : Counter) : (s.bump c).work = s.work := (State.Aside.bump s c).work

@[simp] theorem State.bumpStat_work (i : Fin 128) (k : Stat) : (s.bumpStat i k).work = s.work := by
  rw [State.bumpStat_eq]
  exact s.work_of_set (TillEntry.setStat_exchange ..)

@[simp] theorem State.guardBlocked_work : s.guardBlocked.work = s.work := by
  simp [State.guardBlocked]

@[simp] theorem State.arbiter_work (p : PortId) : (s.arbiter p).work = s.work := by
  obtain ⟨x, w, n, h, _⟩ := s.arbiter_shape p
  rw [h]; exact s.setPort_work p x

@[simp] theorem State.releaseEntry_work (p : PortId) (e : OwnEntry) : (s.releaseEntry p e).work = s.work := by
  cases e with
  | arp b => exact s.setPort_work p _
  | wrapped i | forwarded i | standIn e | response | notice => rfl

@[simp] theorem State.offerOwn_work (p : PortId) (e : OwnEntry) : (s.offerOwn p e).1.work = s.work := by
  rcases s.offerOwn_cases p e with ⟨_, h⟩ | ⟨_, _, _, h⟩ | ⟨_, _, h⟩ <;> simp [h]

@[simp] theorem State.offerBridge_work (p : PortId) (f : Bytes) : (s.offerBridge p f).work = s.work := by
  rcases s.offerBridge_cases p f with ⟨_, h⟩ | ⟨_, _, _, h⟩ | ⟨_, _, _, h⟩ | ⟨_, _, _, h⟩ <;> simp [h]

@[simp] theorem State.arpArrive_work (p : PortId) (f : Bytes) : (s.arpArrive p f).work = s.work := by
  unfold State.arpArrive
  split
  · rfl
  · exact (State.offerOwn_work _ p _).trans (s.setPort_work p _)

@[simp] theorem State.standIn_work (i : Fin 128) (r : Reason) (q : Option Sequence) (port : UdpPort) :
    (s.standIn i r q port).work = s.work := by
  obtain ⟨st, cs, k, x, fr, fs, sb, d, w, n, h, _⟩ := s.standIn_shape i r q port
  rw [h]
  exact s.work_of_set (TillEntry.setStat_exchange _ .refusals k)

theorem State.closeLost_work (i : Fin 128) (x : Exchange) (n : Nat) :
    (s.closeLost i x n).work = ((s.latch .replyLost).closeExchange i n).work := by
  simp [State.closeLost]

@[simp] theorem State.releaseAbandoned_work (p : PortId) (k : TxKind) : (s.releaseAbandoned p k).work = s.work := by
  unfold State.releaseAbandoned
  split
  · exact s.bump_work _
  · rfl
  · exact s.releaseEntry_work p _

@[simp] theorem State.releaseSent_work (p : PortId) (k : TxKind) : (s.releaseSent p k).work = s.work := by
  unfold State.releaseSent
  split
  · exact s.bump_work _
  · exact State.bump_work _ _
  · exact s.releaseEntry_work p _

theorem foldl_work {α : Type} {op : State → α → State} (h : ∀ s a, (op s a).work = s.work) (as : List α)
    (s : State) : (as.foldl op s).work = s.work := by
  induction as generalizing s with
  | nil => rfl
  | cons a as ih => exact (ih _).trans (h s a)

@[simp] theorem State.linkLost_work (p : PortId) : (s.linkLost p).work = s.work := by
  unfold State.linkLost
  rw [foldl_work fun st _ => st.bump_work _, foldl_work fun st e => st.releaseEntry_work p e]
  split <;> simp

@[simp] theorem State.sendResponse_work (c : Context) (tag : Bytes) : (s.sendResponse c tag).work = s.work :=
  State.offerOwn_work _ _ _

@[simp] theorem State.clearCounters_work : s.clearCounters.work = s.work :=
  State.work_eq_iff.mpr ⟨rfl, rfl, rfl, rfl, rfl, fun i => by
    simp [State.clearCounters, TillEntry.zeroStats]⟩

/-- A till written over after its exchange has closed (R52, R54). -/
theorem State.closeExchange_setTill_work (i : Fin 128) (n : Nat) {e : TillEntry} (closed : e.exchange = none) :
    ((s.closeExchange i n).setTill i e).work = (s.closeExchange i n).work :=
  State.work_of_set _ (by rw [closed, State.closeExchange_entry])

theorem TillEntry.write_exchange (e : TillEntry) (f : TillFields) : (e.write f).exchange = e.exchange := by
  unfold TillEntry.write
  split <;> rfl

/-- The state in which the wrapped request is built in its frame slot (R153, R154). -/
def State.wrapBuilt (s : State) (t : JobTarget) (c : Capture) (d : Destination) (v : WrapValues) : State :=
  { s with frames := s.frames.set t.frame (s.wrappedFrame t c d v), ident := s.ident + 1 }

/-- R93 to R95: the wrapped request is built and offered; taken, its exchange goes on, and blocked, it closes. -/
theorem State.sendWrapped_eq (t : JobTarget) (c : Capture) (d : Destination) (v : WrapValues) (x : Exchange) :
    s.sendWrapped t c d v x =
      let offered := (s.wrapBuilt t c d v).offerOwn .L (.wrapped t.frame)
      if offered.2 = .taken then offered.1.wrapTaken t x
      else (offered.1.closeExchange t.till 1).standIn t.till .plainNumber (some x.seq) x.sourcePort := by
  unfold State.sendWrapped
  split
  all_goals
    next s1 h =>
      have offered : (s.wrapBuilt t c d v).offerOwn .L (.wrapped t.frame) = (s1, _) := h
      simp [offered]

/-! ## Laws of the work that each single operation keeps -/

/-- The exchange `x` becomes `y` where its current job ends and it is to wait for a reply (R94, R103). -/
def Exchange.Awaits (x y : Exchange) : Prop :=
  x.wrapJob.isSome = true ∧ y = { x with phase := .awaiting, wrapJob := none } ∨
    x.verifyJob.isSome = true ∧ y = { x with phase := .awaiting, verifyJob := none }

/-- `P` is a law of the work alone, which each single operation on it keeps. -/
structure WorkSteps (P : State → Prop) : Prop where
  same : ∀ {a b : State}, b.work = a.work → P a → P b
  finishLane : ∀ {a : State} (l : Fin 4), P a → P (a.finishLane l)
  offerMgmt : ∀ {a : State} {w : JobWork}, P a → w.frame = none → P (a.offerMgmt w)
  acceptReply : ∀ {a : State} {i : Fin 128} {x : Exchange} {k : Fin 64} {rest : List (Fin 64)} (f : Bytes), P a →
    a.tills[i].exchange = some x → x.phase = .awaiting → a.occupied < Config.queueEntries →
    P (a.acceptReply i x k rest f)
  close : ∀ {a : State} (i : Fin 128) (n : Nat), P a → P (a.closeExchange i n)
  release : ∀ {a : State} (k : Fin 16) (b : BankId) (n : Nat), P a → P (a.releaseRefs k b n)
  awaits : ∀ {a : State} {i : Fin 128} {x y : Exchange}, P a → a.tills[i].exchange = some x → x.Awaits y →
    P (a.setExchange i (some y))
  expired : ∀ {a : State} {i : Fin 128} {x : Exchange}, P a → a.tills[i].exchange = some x →
    P (a.setExchange i (some { x with expiredWhileVerifying := true }))
  tick : ∀ {a : State}, P a → P a.tickTills

namespace WorkSteps

variable {P : State → Prop} {s : State} (W : WorkSteps P)
include W

theorem closeLost {i : Fin 128} (x : Exchange) (n : Nat) (h : P s) : P (s.closeLost i x n) :=
  W.same (s.closeLost_work i x n) (W.close i n (W.same (s.latch_work _) h))

theorem sendWrapped {t : JobTarget} {c : Capture} {d : Destination} {v : WrapValues} {x : Exchange} (h : P s)
    (open_ : s.tills[t.till].exchange = some x) (job : x.wrapJob.isSome = true) : P (s.sendWrapped t c d v x) := by
  have offered : ((s.wrapBuilt t c d v).offerOwn .L (.wrapped t.frame)).1.work = s.work :=
    State.offerOwn_work _ .L _
  have kept := W.same offered h
  rw [State.sendWrapped_eq]
  dsimp only
  split
  · have still := ((State.work_eq_iff.mp offered).2.2.2.2.2 t.till).trans open_
    refine W.same ?_ (W.release x.slot x.bank 1 (W.awaits kept still (.inl ⟨job, rfl⟩)))
    simp [State.wrapTaken]
  · exact W.same (State.standIn_work _ _ _ _ _) (W.close _ _ kept)

theorem forwardReply {t : JobTarget} {n : Nat} {x : Exchange} (h : P s) : P (s.forwardReply t n x) := by
  refine W.same (State.bump_work _ _) (W.close _ _ (W.same (State.offerOwn_work _ _ _) ?_))
  exact W.same (a := s) rfl h

theorem failReply {t : JobTarget} {x : Exchange} (h : P s) (open_ : s.tills[t.till].exchange = some x)
    (job : x.verifyJob.isSome = true) : P (s.failReply t x) := by
  have told : (((s.freeFrame t.frame).latch .tagFail).bump .tagFailures).work = s.work := by simp
  have kept : P (((s.freeFrame t.frame).latch .tagFail).bump .tagFailures) := W.same told h
  unfold State.failReply
  dsimp only
  split
  · exact W.closeLost x 1 kept
  · have still := ((State.work_eq_iff.mp told).2.2.2.2.2 t.till).trans open_
    exact W.release _ _ _ (W.awaits kept still (.inr ⟨job, rfl⟩))

theorem ordinary : Ordinary P where
  aside h e := W.same e.work h
  receive _ _ h := W.same (by simp) h
  mgu {a _} h _ _ := W.same (a := a) rfl h
  offerMgmt h own := W.offerMgmt h own
  arpArrive _ _ h := W.same (by simp) h
  offerBridge _ _ h := W.same (by simp) h
  standIn _ _ _ h _ := W.same (by simp) h
  acceptReply f h _ open_ awaiting _ room := W.acceptReply f h open_ awaiting room
  close i h := W.close i 0 h
  lost {_ _ x} h _ := W.closeLost x 0 h
  expired h open_ := W.expired h open_
  tick h := W.tick h
  finishMgmt h _ _ := W.finishLane _ h
  discard {a l _ t} h _ _ := W.release _ _ _ (W.same (State.freeFrame_work _ _) (W.finishLane l h))
  sendWrapped {a l _ t _ _ _ x} h _ open_ job := by
    refine W.sendWrapped (W.finishLane l h) ?_ (by simp [job])
    obtain ⟨w, v, m, finishes⟩ := a.finishLane_shape l
    rw [finishes]
    exact open_
  forwardReply {_ l _ _ _ _ _ _} h _ _ _ := W.forwardReply (W.finishLane l h)
  failReply {a l _ t _ _ _ x} h _ open_ job := by
    refine W.failReply (W.finishLane l h) ?_ (by simp [job])
    obtain ⟨w, v, m, finishes⟩ := a.finishLane_shape l
    rw [finishes]
    exact open_
  askNotice h := W.same (State.askNotice_notice _).work h
  linkUp h _ := W.same (by simp) h

theorem items (discard : ∀ {a : State} {i : Fin 16} {x : BankId}, P a → a.slots[i].staged = some x →
    P (a.setBank i x .cleared)) : ItemRules P where
  writeSettings h e := by obtain ⟨x, _, rfl⟩ := State.writeSettings_ok e; exact W.same (by rfl) h
  writeTill h e := by
    obtain ⟨i, f, _, _, _, rfl⟩ := State.writeTill_ok e
    refine W.same (State.closeExchange_setTill_work _ i 0 ?_) (W.close i 0 h)
    rw [TillEntry.write_exchange, State.closeExchange_entry]
  clearTill h e := by
    obtain ⟨i, _, rfl⟩ := State.clearTill_ok e
    exact W.same (State.closeExchange_setTill_work _ i 0 rfl) (W.close i 0 h)
  writeRule h e := by obtain ⟨i, r, _, rfl⟩ := State.writeRule_ok e; exact W.same (by rfl) h
  clearRule h e := by obtain ⟨i, _, rfl⟩ := State.clearRule_ok e; exact W.same (by rfl) h
  writeLocator h e := by obtain ⟨i, l, _, rfl⟩ := State.writeLocator_ok e; exact W.same (by rfl) h
  clearLocator h e := by obtain ⟨i, _, rfl⟩ := State.clearLocator_ok e; exact W.same (by rfl) h
  writeDestination h e := by obtain ⟨i, _, rfl⟩ := State.writeDestination_ok e; exact W.same (by rfl) h
  clearDestination h e := by obtain ⟨i, _, rfl⟩ := State.clearDestination_ok e; exact W.same (by rfl) h
  discardStage h e := by
    obtain ⟨i, x, staged, rfl⟩ := State.discardStage_ok e
    exact discard h staged
  writeEventMap h e := by obtain ⟨m, _, _, rfl⟩ := State.writeEventMap_ok e; exact W.same (by rfl) h
  clearCounters h := W.same (State.clearCounters_work _) h

theorem ends (loseWork : ∀ {a : State}, P a → P a.loseWork) : ResponseEnds P where
  linkLost h _ := W.same (State.linkLost_work _ _) h
  sent h _ := W.same (by simp) h
  sendResponse _ h _ := W.same (State.sendResponse_work _ _ _) h
  loseWork h := loseWork h

end WorkSteps

/-! ## Starts -/

theorem Ordinary.eraseMessage {P : State → Prop} {s : State} (O : Ordinary P) (h : P s) : P s.eraseMessage := by
  unfold State.eraseMessage
  split
  next authenticating => exact O.rejectMessage (by rw [authenticating]; decide) h
  · split
    · exact O.answer _ _ _ h
    · exact h
  · exact O.offerMgmt h rfl
  · exact h

/-- An erase keeps what its first part, MGU's part and the arbiters keep. -/
theorem Ordinary.eraseAll {P : State → Prop} {s : State} (O : Ordinary P) (h : P s.erasing)
    (arbiter : ∀ {a : State} (p : PortId), P a → P (a.arbiter p)) : P s.eraseAll := by
  rw [State.eraseAll_eq]
  exact arbiter _ (arbiter _ (O.latch _ (O.eraseMessage h)))

theorem WorkSteps.starts {P : State → Prop} (W : WorkSteps P) (loseWork : ∀ {a : State}, P a → P a.loseWork)
    (coldStart : ∀ a : State, P a.coldStart) (erasing : ∀ {a : State}, P a → P a.erasing) : Starts P where
  warmStart {a} h := W.same (a := a.loseWork) rfl (loseWork h)
  coldStart _ := coldStart _
  eraseAll h := W.ordinary.eraseAll (erasing h) fun p kept => W.same (State.arbiter_work _ p) kept

end Sys2Proof.Machine
end

section
/-! SUPPORT. The jobs of the engine as one list: a job as it runs is the job as it was entered, so that moving a job from
the queue to a lane changes nothing (R111, R114). -/

namespace Sys2Proof.Machine

/-- A running job as it was entered. -/
def Running.job : Running → Job
  | .wrap id t c d _ => ⟨id, .wrap t c d⟩
  | .verify id t trailer n _ => ⟨id, .verify t trailer n⟩
  | .mgmtTag id k _ => ⟨id, .mgmtTag k⟩
  | .keyUnwrap id ktk keys _ _ => ⟨id, .keyUnwrap ktk keys⟩
  | .responseTag id k _ => ⟨id, .responseTag k⟩

@[simp] theorem State.startJob_job (s : State) (j : Job) : (s.startJob j).job = j := by
  obtain ⟨n, w⟩ := j
  cases w <;> rfl

@[simp] theorem Running.job_id (r : Running) : r.job.id = r.id := by cases r <;> rfl

@[simp] theorem Running.job_frame (r : Running) : r.job.work.frame = r.frame := by cases r <;> rfl

@[simp] theorem Running.job_wraps (r : Running) : r.job.work.wraps = r.wraps := by cases r <;> rfl

@[simp] theorem Running.job_verifies (r : Running) : r.job.work.verifies = r.verifies := by cases r <;> rfl

/-- The jobs on the lanes. -/
def laneJobs (v : Vector (Option Running) 4) : List Job := v.toList.filterMap fun r => r.map Running.job

/-- The jobs in the engine, waiting and running. -/
def State.jobs (s : State) : List Job := s.waiting ++ laneJobs s.lanes

theorem State.occupied_eq (s : State) : s.occupied = s.jobs.length := by
  have lanes : ∀ rs : List (Option Running),
      rs.countP Option.isSome = (rs.filterMap fun r => r.map Running.job).length := by
    intro rs
    induction rs with
    | nil => rfl
    | cons r rs ih => cases r <;> simp [ih]
  simp [State.occupied, State.jobs, laneJobs, lanes]

theorem State.jobs_of_work {a b : State} (h : b.work = a.work) : b.jobs = a.jobs := by
  obtain ⟨waiting, lanes, _⟩ := State.work_eq_iff.mp h
  simp [State.jobs, waiting, lanes]

/-! ## Lanes -/

/-- The jobs on the lanes but for lane `l`. -/
theorem laneJobs_split (v : Vector (Option Running) 4) (l : Fin 4) :
    ∃ rest, (laneJobs v).Perm ((v[l].map Running.job).toList ++ rest) ∧
      ∀ r, (laneJobs (v.set l r)).Perm ((r.map Running.job).toList ++ rest) := by
  refine ⟨(v.toList.eraseIdx l).filterMap fun r => r.map Running.job, ?_, fun r => ?_⟩
  · have split := (List.getElem_cons_eraseIdx_perm (l := v.toList) (n := l.val) (by simp)).symm
    refine (split.filterMap _).trans (.of_eq ?_)
    cases h : v[l.val] <;> simp [h]
  · have split := List.set_perm_cons_eraseIdx (l := v.toList) (n := l.val) (by simp) r
    rw [laneJobs, Vector.toList_set]
    refine (split.filterMap _).trans (.of_eq ?_)
    cases r <;> rfl

theorem laneJobs_take {v : Vector (Option Running) 4} {l : Fin 4} (idle : v[l] = none) (r : Running) :
    (laneJobs (v.set l (some r))).Perm (r.job :: laneJobs v) := by
  obtain ⟨rest, before, after⟩ := laneJobs_split v l
  rw [idle] at before
  exact (after (some r)).trans (before.symm.cons r.job)

theorem laneJobs_clear {v : Vector (Option Running) 4} {l : Fin 4} {r : Running} (runs : v[l] = some r) :
    (r.job :: laneJobs (v.set l none)).Perm (laneJobs v) := by
  obtain ⟨rest, before, after⟩ := laneJobs_split v l
  rw [runs] at before
  exact ((after none).cons r.job).trans before.symm

/-! ## Moves between queue, lanes and MGU (R112 to R116) -/

theorem firstFree_eq_some {α : Type} {n : Nat} {v : Vector (Option α) n} {i : Fin n} (h : firstFree v = some i) :
    v[i] = none := by
  simpa using List.find?_some h

theorem firstFree_eq_none {α : Type} {n : Nat} {v : Vector (Option α) n} (h : firstFree v = none) (i : Fin n) :
    v[i] ≠ none := by
  have used := List.find?_eq_none.mp h i (List.mem_finRange i)
  intro free
  simp [free] at used

theorem State.takeOn_jobs {s : State} {l : Fin 4} (idle : s.lanes[l] = none) : (s.takeOn l).jobs.Perm s.jobs := by
  rcases s.takeOn_cases l with ⟨_, h⟩ | ⟨j, rest, waiting, h⟩
  · rw [h]
  · rw [h, State.jobs, State.jobs, waiting]
    refine ((laneJobs_take idle (s.startJob j)).append_left rest).trans ?_
    rw [State.startJob_job]
    exact List.perm_middle

theorem State.takeJob_jobs (s : State) : s.takeJob.jobs.Perm s.jobs := by
  unfold State.takeJob
  split
  · exact .refl _
  next l free => exact State.takeOn_jobs (firstFree_eq_some free)

/-- An entering job joins the jobs of the engine (R112). -/
theorem State.enterJob_jobs (s : State) (j : Job) : (s.enterJob j).jobs.Perm (j :: s.jobs) := by
  refine (State.takeJob_jobs _).trans ?_
  simp only [State.jobs, List.append_assoc, List.singleton_append]
  exact List.perm_middle

/-- The jobs of the engine and the one waiting in MGU. -/
def State.allJobs (s : State) : List Job := s.jobs ++ s.mgmtWaiting.toList

theorem State.allJobs_of_work {a b : State} (h : b.work = a.work) : b.allJobs = a.allJobs := by
  simp [State.allJobs, State.jobs_of_work h, (State.work_eq_iff.mp h).2.2.1]

/-- A freed entry lets the job waiting in MGU in, and changes no more (R113). -/
theorem State.admitWaiting_allJobs (s : State) : s.admitWaiting.allJobs.Perm s.allJobs := by
  unfold State.admitWaiting
  split
  · exact .refl _
  next j waits =>
    split
    · obtain ⟨w, v, h⟩ := State.enterJob_shape { s with mgmtWaiting := none } j
      have entered := State.enterJob_jobs { s with mgmtWaiting := none } j
      have left : ((({ s with mgmtWaiting := none } : State).enterJob j).mgmtWaiting).toList = [] := by rw [h]; rfl
      rw [State.allJobs, left, List.append_nil, State.allJobs, waits]
      exact entered.trans (List.perm_append_singleton j s.jobs).symm
    · exact .refl _

/-- A completed job leaves the engine, and no other does (R116). -/
theorem State.finishLane_allJobs {s : State} {l : Fin 4} {r : Running} (runs : s.lanes[l] = some r) :
    (r.job :: (s.finishLane l).allJobs).Perm s.allJobs := by
  have idle : ({ s with lanes := s.lanes.set l none } : State).lanes[l] = none := by simp
  obtain ⟨w, v, h⟩ := State.takeOn_shape { s with lanes := s.lanes.set l none } l
  have taken := State.takeOn_jobs idle
  have cleared : ((({ s with lanes := s.lanes.set l none } : State).takeOn l).mgmtWaiting) = s.mgmtWaiting := by rw [h]
  refine ((State.admitWaiting_allJobs _).cons _).trans ?_
  rw [State.allJobs, cleared, State.allJobs, ← List.cons_append]
  refine List.Perm.append_right _ ((taken.cons _).trans ?_)
  exact List.perm_middle.symm.trans ((laneJobs_clear runs).append_left s.waiting)

/-- The engine after an offer of a management job: its own job is new, and of those before it at most the one that
waited in MGU has left (R113). -/
theorem State.offerMgmt_allJobs (s : State) (w : JobWork) :
    ∃ kept, (s.offerMgmt w).allJobs.Perm (⟨s.nextJob, w⟩ :: kept) ∧ (kept = s.allJobs ∨ kept = s.jobs) := by
  unfold State.offerMgmt
  dsimp only
  split
  · refine ⟨s.allJobs, ?_, .inl rfl⟩
    obtain ⟨q, v, h⟩ := State.enterJob_shape
      { s with
        nextJob := s.nextJob + 1
        context := s.context.map fun c => { c with job := some s.nextJob } } ⟨s.nextJob, w⟩
    have entered := State.enterJob_jobs
      { s with
        nextJob := s.nextJob + 1
        context := s.context.map fun c => { c with job := some s.nextJob } } ⟨s.nextJob, w⟩
    rw [State.allJobs, State.allJobs, ← List.cons_append]
    have waits := congrArg State.mgmtWaiting h
    rw [waits]
    exact entered.append_right _
  · exact ⟨s.jobs, List.perm_append_singleton _ _, .inr rfl⟩

/-! ## No job waits beside an idle lane (R114) -/

/-- A lane is idle only when no job waits. -/
def State.Serving (s : State) : Prop := (∃ l : Fin 4, s.lanes[l] = none) → s.waiting = []

theorem State.enterJob_serving {s : State} (serving : s.Serving) (j : Job) : (s.enterJob j).Serving := by
  unfold State.enterJob State.takeJob
  split
  next used => exact fun ⟨l, idle⟩ => absurd idle (firstFree_eq_none used l)
  next l free =>
    have none_waits : s.waiting = [] := serving ⟨l, firstFree_eq_some free⟩
    intro _
    simp [State.takeOn, none_waits]

theorem State.takeOn_serving {s : State} (serving : s.Serving) (l : Fin 4) :
    (({ s with lanes := s.lanes.set l none } : State).takeOn l).Serving := by
  rcases State.takeOn_cases { s with lanes := s.lanes.set l none } l with ⟨empty, h⟩ | ⟨j, rest, waits, h⟩ <;> rw [h]
  · exact fun _ => empty
  · rintro ⟨m, idle⟩
    have lanes : ((s.lanes.set l none).set l (some (State.startJob { s with lanes := s.lanes.set l none } j)))[m] =
      none := idle
    rw [getElem_set_fin] at lanes
    split at lanes
    · cases lanes
    next other =>
      rw [getElem_set_fin, if_neg other] at lanes
      exact absurd ((serving ⟨m, lanes⟩).symm.trans waits) (by simp)

theorem State.serving_of_work {a b : State} (h : b.work = a.work) (serving : a.Serving) : b.Serving := by
  obtain ⟨waiting, lanes, _⟩ := State.work_eq_iff.mp h
  unfold State.Serving
  rwa [waiting, lanes]

/-! ## The length of the queue (R111) -/

theorem State.queueLaw_iff (s : State) : s.QueueLaw ↔ s.jobs.length ≤ Config.queueEntries ∧ s.Serving := by
  rw [State.QueueLaw, State.occupied_eq]
  rfl

theorem State.QueueLaw.enterJob {s : State} (law : s.QueueLaw) (room : s.occupied < Config.queueEntries) (j : Job) :
    (s.enterJob j).QueueLaw := by
  rw [State.queueLaw_iff] at law ⊢
  refine ⟨?_, State.enterJob_serving law.2 j⟩
  rw [(s.enterJob_jobs j).length_eq, List.length_cons, ← State.occupied_eq]
  exact room

theorem State.QueueLaw.admitWaiting {s : State} (law : s.QueueLaw) : s.admitWaiting.QueueLaw := by
  unfold State.admitWaiting
  split
  · exact law
  · split
    next room => exact State.QueueLaw.enterJob (s := { s with mgmtWaiting := none }) law room _
    · exact law

/-- A lane freed and served again holds no more jobs than before. -/
theorem State.QueueLaw.finishLane {s : State} (law : s.QueueLaw) (l : Fin 4) : (s.finishLane l).QueueLaw := by
  refine State.QueueLaw.admitWaiting ?_
  have idle : ({ s with lanes := s.lanes.set l none } : State).lanes[l] = none := by simp
  refine (State.queueLaw_iff _).mpr ⟨?_, State.takeOn_serving (s.queueLaw_iff.mp law).2 l⟩
  obtain ⟨rest, before, after⟩ := laneJobs_split s.lanes l
  have small := (s.queueLaw_iff.mp law).1
  have cleared := (after none).length_eq
  have lanes := before.length_eq
  rw [(State.takeOn_jobs idle).length_eq]
  simp only [State.jobs, List.length_append] at small ⊢
  rw [cleared]
  rw [lanes] at small
  simp only [Option.map_none, Option.toList_none, List.nil_append, List.length_append] at small ⊢
  omega

end Sys2Proof.Machine
end

section
/-! SUPPORT. The branches of a close (R107), and the law of the queue under every operation on the work. -/

namespace Sys2Proof.Machine

/-- R107: an entry without an exchange; an exchange whose job does not wait; one whose job waits. -/
theorem State.closeExchange_cases (s : State) (i : Fin 128) (n : Nat) :
    (s.tills[i].exchange = none ∧ s.closeExchange i n = s) ∨
    (∃ x, s.tills[i].exchange = some x ∧ (∀ j ∈ s.waiting, x.job ≠ some j.id) ∧
      s.closeExchange i n = (s.setExchange i none).releaseRefs x.slot x.bank (1 + n)) ∨
    (∃ x j, s.tills[i].exchange = some x ∧ j ∈ s.waiting ∧ x.job = some j.id ∧
      s.closeExchange i n = (((s.setExchange i none).removeJob j).releaseRefs x.slot x.bank 2).admitWaiting) := by
  unfold State.closeExchange
  cases open_ : s.tills[i].exchange with
  | none => exact .inl ⟨rfl, rfl⟩
  | some x =>
    dsimp only
    cases found : (s.setExchange i none).waiting.find? fun j => decide (x.job = some j.id) with
    | none =>
      refine .inr (.inl ⟨x, rfl, fun j waits named => ?_, rfl⟩)
      simpa [named] using List.find?_eq_none.mp found j waits
    | some j =>
      exact .inr (.inr ⟨x, j, rfl, List.mem_of_find?_eq_some found, by simpa using List.find?_some found, rfl⟩)

theorem State.removeJob_work (s : State) (j : Job) :
    (s.removeJob j).work = ({ s with waiting := s.waiting.filter fun k => k.id ≠ j.id } : State).work := by
  obtain ⟨fr, fs, h⟩ := s.removeJob_shape j
  rw [h]; rfl

theorem State.QueueLaw.of_work {a b : State} (same : b.work = a.work) (law : a.QueueLaw) : b.QueueLaw := by
  rw [State.queueLaw_iff] at law ⊢
  exact ⟨State.jobs_of_work same ▸ law.1, State.serving_of_work same law.2⟩

/-- The law reads the queue and the lanes alone. -/
theorem State.QueueLaw.congr {a b : State} (waiting : b.waiting = a.waiting) (lanes : b.lanes = a.lanes)
    (law : a.QueueLaw) : b.QueueLaw := by
  unfold State.QueueLaw State.occupied at law ⊢
  rwa [waiting, lanes]

/-- A job enters a state with the queue and lanes of one with room (R112). -/
theorem State.QueueLaw.enter {a b : State} (waiting : b.waiting = a.waiting) (lanes : b.lanes = a.lanes)
    (law : a.QueueLaw) (room : a.occupied < Config.queueEntries) (j : Job) : (b.enterJob j).QueueLaw := by
  refine (law.congr waiting lanes).enterJob ?_ j
  rwa [State.occupied, waiting, lanes]

theorem State.QueueLaw.removeJob {s : State} (law : s.QueueLaw) (j : Job) : (s.removeJob j).QueueLaw := by
  refine .of_work (s.removeJob_work j) ?_
  rw [State.queueLaw_iff] at law ⊢
  refine ⟨Nat.le_trans ?_ law.1, fun idle => ?_⟩
  · simp only [State.jobs, List.length_append]
    exact Nat.add_le_add_right (List.length_filter_le _ _) _
  · have empty := law.2 idle
    simp [empty]

theorem State.QueueLaw.closeExchange {s : State} (law : s.QueueLaw) (i : Fin 128) (n : Nat) :
    (s.closeExchange i n).QueueLaw := by
  rcases s.closeExchange_cases i n with ⟨_, h⟩ | ⟨x, _, _, h⟩ | ⟨x, j, _, _, _, h⟩ <;> rw [h]
  · exact law
  · exact law
  · exact .admitWaiting (.removeJob (s := s.setExchange i none) law j)

/-- The queue gains its entry in an offer, an admission and an accepted reply only where there is room (R92, R100, R113). -/
theorem queueLaw_workSteps : WorkSteps State.QueueLaw where
  same := .of_work
  finishLane l h := h.finishLane l
  offerMgmt {a w} h _ := by
    unfold State.offerMgmt
    dsimp only
    split
    next room => exact .enter (by rfl) (by rfl) h room _
    · exact h.congr (by rfl) (by rfl)
  acceptReply {a i x k rest} f h _ _ room := by
    unfold State.acceptReply
    exact .enter (by rfl) (by rfl) h room _
  close i n h := h.closeExchange i n
  release _ _ _ h := h.congr (by rfl) (by rfl)
  awaits h _ _ := h.congr (by rfl) (by rfl)
  expired h _ := h.congr (by rfl) (by rfl)
  tick h := h.congr (by rfl) (by rfl)

theorem State.cleared_queueLaw {s : State} (waiting : s.waiting = []) (lanes : s.lanes = Vector.replicate 4 none) :
    s.QueueLaw := by
  refine s.queueLaw_iff.mpr ⟨?_, fun _ => waiting⟩
  rw [State.jobs, waiting, lanes]
  decide

theorem queueLaw_keeps : Keeps State.QueueLaw where
  ordinary := queueLaw_workSteps.ordinary
  items := queueLaw_workSteps.items fun h _ => h.congr (by rfl) (by rfl)
  banks :=
    { openExchange := fun d _ _ _ f h _ _ _ _ room => by
        unfold State.openExchange
        exact .enter (by rfl) (by rfl) h room _
      commitStage := fun i g code keys given h => by
        unfold State.commitStage
        split <;> exact h.congr (by rfl) (by rfl)
      switchSlot := fun h e => by obtain ⟨i, k, _, rfl⟩ := State.switchSlot_ok e; exact h.congr (by rfl) (by rfl)
      retireSlot := fun h e => by obtain ⟨i, x, _, _, rfl⟩ := State.retireSlot_ok e; exact h.congr (by rfl) (by rfl) }
  ends := queueLaw_workSteps.ends fun _ => State.cleared_queueLaw rfl rfl
  starts := queueLaw_workSteps.starts (fun _ => State.cleared_queueLaw rfl rfl)
    (fun _ => State.cleared_queueLaw rfl rfl) fun _ => State.cleared_queueLaw rfl rfl

end Sys2Proof.Machine
end

section
/-! R111, R114: the job queue. -/

open Sys2Proof Sys2Proof.Machine

/-- Settles O12: each operation on the engine keeps the bound and serves an idle lane first. -/
theorem queueStaysWithinItsEntries : Obligations.QueueStaysWithinItsEntries := fun _ _ law e =>
  queueLaw_keeps.step law e
end

section
/-! SUPPORT. Which till entries an operation can move, and the laws of the entries and of the exchange records (R43, R83,
Table 5-1). -/

namespace Sys2Proof.Machine

/-! ## The till an operation moves -/

/-- No till but `i` differs. -/
def State.OnlyTill (i : Fin 128) (a b : State) : Prop := ∀ j : Fin 128, j ≠ i → b.tills[j] = a.tills[j]

theorem State.OnlyTill.of_tills {i : Fin 128} {a b : State} (h : b.tills = a.tills) : State.OnlyTill i a b :=
  fun j _ => by rw [h]

theorem State.OnlyTill.trans {i : Fin 128} {a b c : State} (h : State.OnlyTill i a b) (k : State.OnlyTill i b c) :
    State.OnlyTill i a c := fun j other => (k j other).trans (h j other)

theorem State.OnlyTill.of_set {i : Fin 128} {a b : State} {e : TillEntry} (h : b.tills = a.tills.set i e) :
    State.OnlyTill i a b := fun j other => by rw [h, getElem_set_fin, if_neg (Ne.symm other)]

variable (s : State)

@[simp] theorem State.arbiter_tills (p : PortId) : (s.arbiter p).tills = s.tills := by
  obtain ⟨x, w, n, h, _⟩ := s.arbiter_shape p
  rw [h]; exact s.setPort_tills p x

@[simp] theorem State.releaseEntry_tills (p : PortId) (e : OwnEntry) : (s.releaseEntry p e).tills = s.tills := by
  cases e with
  | arp b => exact s.setPort_tills p _
  | wrapped i | forwarded i | standIn e | response | notice => rfl

@[simp] theorem State.guardBlocked_tills : s.guardBlocked.tills = s.tills := by
  obtain ⟨st, h, _⟩ := s.guardBlocked_shape
  rw [h]

@[simp] theorem State.offerOwn_tills (p : PortId) (e : OwnEntry) : (s.offerOwn p e).1.tills = s.tills := by
  rcases s.offerOwn_cases p e with ⟨_, h⟩ | ⟨_, _, _, h⟩ | ⟨_, _, h⟩ <;> simp [h]

@[simp] theorem State.finishLane_tills (l : Fin 4) : (s.finishLane l).tills = s.tills := by
  obtain ⟨w, v, m, h⟩ := s.finishLane_shape l
  rw [h]

@[simp] theorem State.enterJob_tills (j : Job) : (s.enterJob j).tills = s.tills := by
  obtain ⟨w, v, h⟩ := s.enterJob_shape j
  rw [h]

@[simp] theorem State.offerMgmt_tills (w : JobWork) : (s.offerMgmt w).tills = s.tills := by
  obtain ⟨w, v, m, h⟩ := s.offerMgmt_shape w
  rw [h]

@[simp] theorem State.offerBridge_tills (p : PortId) (f : Bytes) : (s.offerBridge p f).tills = s.tills := by
  rcases s.offerBridge_cases p f with ⟨_, h⟩ | ⟨_, _, _, h⟩ | ⟨_, _, _, h⟩ | ⟨_, _, _, h⟩ <;> simp [h, State.bump_tills]

@[simp] theorem State.arpArrive_tills (p : PortId) (f : Bytes) : (s.arpArrive p f).tills = s.tills := by
  unfold State.arpArrive
  split
  · rfl
  · exact (State.offerOwn_tills _ p _).trans (s.setPort_tills p _)

theorem State.setExchange_onlyTill (i : Fin 128) (x : Option Exchange) : State.OnlyTill i s (s.setExchange i x) :=
  .of_set (e := { s.tills[i] with exchange := x }) rfl

theorem State.bumpStat_onlyTill (i : Fin 128) (k : Stat) : State.OnlyTill i s (s.bumpStat i k) := by
  rw [State.bumpStat_eq]
  exact .of_set (e := s.tills[i].setStat k (gained Config.statMax (s.tills[i].stat k))) rfl

theorem State.standIn_onlyTill (i : Fin 128) (r : Reason) (q : Option Sequence) (port : UdpPort) :
    State.OnlyTill i s (s.standIn i r q port) := by
  obtain ⟨st, cs, k, x, fr, fs, sb, d, w, n, h, _⟩ := s.standIn_shape i r q port
  rw [h]
  exact .of_set (e := s.tills[i].setStat .refusals k) rfl

theorem State.closeExchange_onlyTill (i : Fin 128) (n : Nat) : State.OnlyTill i s (s.closeExchange i n) := by
  obtain ⟨sl, w, v, m, fr, fs, h⟩ := s.closeExchange_shape i n
  rw [h]
  exact .of_set (e := { s.tills[i] with exchange := none }) rfl

theorem State.closeLost_onlyTill (i : Fin 128) (x : Exchange) (n : Nat) :
    State.OnlyTill i s (s.closeLost i x n) :=
  (State.closeExchange_onlyTill (s.latch .replyLost) i n).trans
    ((State.bumpStat_onlyTill _ i _).trans (State.standIn_onlyTill _ i _ _ _))

theorem State.wrapTaken_onlyTill (t : JobTarget) (x : Exchange) : State.OnlyTill t.till s (s.wrapTaken t x) := by
  have awaits := s.setExchange_onlyTill t.till (some { x with phase := .awaiting, wrapJob := none })
  refine (awaits.trans (.of_tills ?_)).trans (State.bumpStat_onlyTill _ _ _)
  rw [State.bump_tills]
  rfl

theorem State.sendWrapped_onlyTill (t : JobTarget) (c : Capture) (d : Destination) (v : WrapValues) (x : Exchange) :
    State.OnlyTill t.till s (s.sendWrapped t c d v x) := by
  have offered : State.OnlyTill t.till s ((s.wrapBuilt t c d v).offerOwn .L (.wrapped t.frame)).1 :=
    .of_tills (State.offerOwn_tills _ _ _)
  rw [State.sendWrapped_eq]
  dsimp only
  split
  · exact offered.trans (State.wrapTaken_onlyTill _ t x)
  · exact (offered.trans (State.closeExchange_onlyTill _ _ _)).trans (State.standIn_onlyTill _ _ _ _ _)

theorem State.forwardReply_onlyTill (t : JobTarget) (n : Nat) (x : Exchange) :
    State.OnlyTill t.till s (s.forwardReply t n x) := by
  refine .trans (.trans (.of_tills ?_) (State.closeExchange_onlyTill _ _ _)) (.of_tills (State.bump_tills _ _))
  exact State.offerOwn_tills _ _ _

theorem State.failReply_onlyTill (t : JobTarget) (x : Exchange) : State.OnlyTill t.till s (s.failReply t x) := by
  have told : State.OnlyTill t.till s (((s.freeFrame t.frame).latch .tagFail).bump .tagFailures) :=
    .of_tills (State.bump_tills _ _)
  unfold State.failReply
  dsimp only
  split
  · exact told.trans (State.closeLost_onlyTill _ _ _ _)
  · exact told.trans (State.setExchange_onlyTill _ _ _)

theorem State.acceptReply_onlyTill (i : Fin 128) (x : Exchange) (k : Fin 64) (rest : List (Fin 64)) (f : Bytes) :
    State.OnlyTill i s (s.acceptReply i x k rest f) := by
  refine .trans (b := s.setExchange i (some { x with phase := .verifying, verifyJob := some s.nextJob }))
    (s.setExchange_onlyTill i _) (.of_tills ?_)
  exact State.enterJob_tills _ _

theorem State.openExchange_onlyTill (c : Capture) (d : Destination) (b : BankId) (k : Fin 64) (rest : List (Fin 64))
    (f : Bytes) : State.OnlyTill c.till s (s.openExchange c d b k rest f) := by
  unfold State.openExchange
  exact .trans (State.setExchange_onlyTill { s with frames := _, freeSlots := rest, nextJob := _, slots := _ } c.till _)
    (.of_tills (State.enterJob_tills _ _))

theorem foldl_tills {α : Type} {op : State → α → State} (h : ∀ s a, (op s a).tills = s.tills) (as : List α)
    (s : State) : (as.foldl op s).tills = s.tills := by
  induction as generalizing s with
  | nil => rfl
  | cons a as ih => exact (ih _).trans (h s a)

@[simp] theorem State.releaseAbandoned_tills (p : PortId) (k : TxKind) : (s.releaseAbandoned p k).tills = s.tills := by
  unfold State.releaseAbandoned
  split
  · exact s.bump_tills _
  · rfl
  · exact s.releaseEntry_tills p _

@[simp] theorem State.releaseSent_tills (p : PortId) (k : TxKind) : (s.releaseSent p k).tills = s.tills := by
  unfold State.releaseSent
  split
  · exact s.bump_tills _
  · exact State.bump_tills _ _
  · exact s.releaseEntry_tills p _

theorem State.linkLost_tills (p : PortId) : (s.linkLost p).tills = s.tills := by
  unfold State.linkLost
  rw [foldl_tills fun st _ => st.bump_tills _, foldl_tills fun st e => st.releaseEntry_tills p e]
  split <;> simp

/-! ## Till entries (R43) -/

/-- The law moves with the entries. -/
theorem State.EntryLaw.of_tills {a b : State} (h : b.tills = a.tills) (law : a.EntryLaw) : b.EntryLaw := by
  rwa [State.EntryLaw, h]

/-- A valid entry may change in what items do not write. -/
theorem State.EntryLaw.onlyTill {a b : State} {i : Fin 128} (law : a.EntryLaw) (valid : a.tills[i].valid = true)
    (items : b.byItems = a.byItems) (only : State.OnlyTill i a b) : b.EntryLaw := by
  intro j
  by_cases same : j = i
  · subst same
    have written := (State.tables_eq_iff.mp (State.tables_of_byItems items)).2.2.2.2.2 j
    obtain ⟨valid', number, _⟩ := TillEntry.written_eq_iff.mp written
    refine ⟨fun invalid => ?_, fun _ => number ▸ (law j).2 valid⟩
    rw [valid', valid] at invalid
    cases invalid
  · rw [only j same]
    exact law j

theorem State.EntryLaw.valid_of_open {s : State} (law : s.EntryLaw) {i : Fin 128} {x : Exchange}
    (open_ : s.tills[i].exchange = some x) : s.tills[i].valid = true := by
  by_contra invalid
  rw [(law i).1 (by simpa using invalid)] at open_
  cases open_

/-- An entry that a change leaves cold where it was cold, and otherwise as items wrote it, meets the law. -/
theorem State.EntryLaw.of_cold {a b : State} (law : a.EntryLaw) (tables : b.tables = a.tables)
    (cold : ∀ i : Fin 128, a.tills[i] = .cold → b.tills[i] = .cold) : b.EntryLaw := by
  intro i
  obtain ⟨valid, number, _⟩ := TillEntry.written_eq_iff.mp ((State.tables_eq_iff.mp tables).2.2.2.2.2 i)
  rw [valid, number]
  exact ⟨fun invalid => cold i ((law i).1 invalid), (law i).2⟩

theorem State.EntryLaw.set {a b : State} {i : Fin 128} {e : TillEntry} (law : a.EntryLaw)
    (h : b.tills = a.tills.set i e)
    (entry : (e.valid = false → e = .cold) ∧ (e.valid = true → 1 ≤ e.number ∧ e.number ≤ Config.tillNumberMax)) :
    b.EntryLaw := by
  intro j
  rw [h, getElem_set_fin]
  split
  · exact entry
  · exact law j

theorem State.EntryLaw.close {s : State} (law : s.EntryLaw) (i : Fin 128) (n : Nat) :
    (s.closeExchange i n).EntryLaw := by
  refine law.of_cold (State.tables_of_byItems (s.closeExchange_byItems i n)) fun j cold => ?_
  by_cases same : j = i
  · subst same
    rw [State.closeExchange_entry, cold]
    rfl
  · rw [s.closeExchange_onlyTill i n j same, cold]

theorem parseTill_number {b : Bytes} {f : TillFields} (h : parseTill b = some f) :
    1 ≤ f.number ∧ f.number ≤ Config.tillNumberMax := by
  unfold parseTill at h
  dsimp only at h
  split at h
  · cases h
  · split at h
    next inRange => cases h; exact inRange
    · cases h

theorem TillEntry.write_valid (e : TillEntry) (f : TillFields) :
    (e.write f).valid = true ∧ (e.write f).number = f.number := by
  unfold TillEntry.write
  split <;> exact ⟨rfl, rfl⟩

theorem entryLaw_ordinary : Ordinary State.EntryLaw where
  aside h e := h.of_tills (by rw [e])
  receive p f h := h.of_tills (State.setPort_tills _ p _)
  mgu h _ _ := h
  offerMgmt h _ := h.of_tills (by simp)
  arpArrive _ _ h := h.of_tills (by simp)
  offerBridge _ _ h := h.of_tills (by simp)
  standIn _ _ _ h valid := h.onlyTill valid (by simp) (State.standIn_onlyTill _ _ _ _ _)
  acceptReply _ h valid _ _ _ _ := h.onlyTill valid (by simp) (State.acceptReply_onlyTill _ _ _ _ _ _)
  close i h := h.close i 0
  lost h open_ := h.onlyTill (h.valid_of_open open_) (by simp) (State.closeLost_onlyTill _ _ _ _)
  expired h open_ := h.onlyTill (h.valid_of_open open_) (by simp) (State.setExchange_onlyTill _ _ _)
  tick {a} h := h.of_cold (State.tables_of_byItems (by simp)) fun i cold => by
    simp [State.tickTills, show a.tills[i.val] = TillEntry.cold from cold, TillEntry.cold]
  finishMgmt h _ _ := h.of_tills (by simp)
  discard {a l _ t} h _ _ := h.of_tills (a.finishLane_tills l)
  sendWrapped {a l _ t _ _ _ x} h _ open_ _ :=
    State.EntryLaw.onlyTill (h.of_tills (a.finishLane_tills l)) (by simpa using h.valid_of_open open_) (by simp)
      (State.sendWrapped_onlyTill _ _ _ _ _ _)
  forwardReply {a l _ t _ _ _ x} h _ open_ _ :=
    State.EntryLaw.onlyTill (h.of_tills (a.finishLane_tills l)) (by simpa using h.valid_of_open open_) (by simp)
      (State.forwardReply_onlyTill _ _ _ _)
  failReply {a l _ t _ _ _ x} h _ open_ _ :=
    State.EntryLaw.onlyTill (h.of_tills (a.finishLane_tills l)) (by simpa using h.valid_of_open open_) (by simp)
      (State.failReply_onlyTill _ _ _)
  askNotice {a} h := h.of_tills (by rw [a.askNotice_notice.others])
  linkUp h _ := h.of_tills (by simp)

theorem entryLaw_items : ItemRules State.EntryLaw where
  writeSettings h e := by obtain ⟨x, _, rfl⟩ := State.writeSettings_ok e; exact h
  writeTill h e := by
    obtain ⟨i, f, _, parsed, _, rfl⟩ := State.writeTill_ok e
    obtain ⟨valid, number⟩ := TillEntry.write_valid ((State.closeExchange _ i 0).tills[i]) f
    refine State.EntryLaw.set (h.close i 0) rfl ⟨fun invalid => ?_, fun _ => ?_⟩
    · rw [valid] at invalid; cases invalid
    · rw [number]; exact parseTill_number parsed
  clearTill h e := by
    obtain ⟨i, _, rfl⟩ := State.clearTill_ok e
    exact State.EntryLaw.set (h.close i 0) rfl ⟨fun _ => rfl, nofun⟩
  writeRule h e := by obtain ⟨i, r, _, rfl⟩ := State.writeRule_ok e; exact h
  clearRule h e := by obtain ⟨i, _, rfl⟩ := State.clearRule_ok e; exact h
  writeLocator h e := by obtain ⟨i, l, _, rfl⟩ := State.writeLocator_ok e; exact h
  clearLocator h e := by obtain ⟨i, _, rfl⟩ := State.clearLocator_ok e; exact h
  writeDestination h e := by obtain ⟨i, _, rfl⟩ := State.writeDestination_ok e; exact h
  clearDestination h e := by obtain ⟨i, _, rfl⟩ := State.clearDestination_ok e; exact h
  discardStage h e := by obtain ⟨i, x, _, rfl⟩ := State.discardStage_ok e; exact h
  writeEventMap h e := by obtain ⟨m, _, _, rfl⟩ := State.writeEventMap_ok e; exact h
  clearCounters {a} h := h.of_cold a.clearCounters_tables fun i cold => by
    simp [State.clearCounters, TillEntry.zeroStats, show a.tills[i.val] = TillEntry.cold from cold, TillEntry.cold]

theorem State.tills_entryLaw {s : State} (law : s.EntryLaw) : ∀ {t : State},
    t.tills = s.tills.map TillEntry.withoutExchange → t.EntryLaw := by
  intro t tills i
  have entry : t.tills[i] = s.tills[i].withoutExchange := by rw [tills]; simp
  rw [entry]
  refine ⟨fun invalid => ?_, (law i).2⟩
  rw [(law i).1 invalid]
  rfl

theorem State.reset_entryLaw : State.reset.EntryLaw := by
  intro i
  have entry : State.reset.tills[i] = .cold := by simp [State.reset]
  rw [entry]
  exact ⟨fun _ => rfl, nofun⟩

theorem entryLaw_keeps : Keeps State.EntryLaw where
  ordinary := entryLaw_ordinary
  items := entryLaw_items
  banks :=
    { openExchange := fun d _ _ _ f h valid _ _ _ _ => h.onlyTill valid (by simp) (State.openExchange_onlyTill _ _ _ _ _ _ _)
      commitStage := fun i g code keys given h => by
        unfold State.commitStage
        split <;> exact h
      switchSlot := fun h e => by obtain ⟨i, k, _, rfl⟩ := State.switchSlot_ok e; exact h
      retireSlot := fun h e => by obtain ⟨i, x, _, _, rfl⟩ := State.retireSlot_ok e; exact h }
  ends :=
    { linkLost := fun {a p} h _ => h.of_tills (a.linkLost_tills p)
      sent := fun {a p w} h _ => h.of_tills (by simp)
      sendResponse := fun _ h _ => h.of_tills (State.offerOwn_tills _ _ _)
      loseWork := fun h => State.tills_entryLaw h rfl }
  starts :=
    { warmStart := fun h => State.tills_entryLaw h rfl
      coldStart := fun _ => State.reset_entryLaw.of_tills rfl
      eraseAll := fun h => entryLaw_ordinary.eraseAll (State.tills_entryLaw h rfl) fun p kept =>
        kept.of_tills (State.arbiter_tills _ p) }

/-! ## Exchange records (Table 5-1) -/

theorem State.ExchangeLaw.of_work {a b : State} (same : b.work = a.work) (law : a.ExchangeLaw) : b.ExchangeLaw :=
  fun i x open_ => law i x ((State.work_eq_iff.mp same).2.2.2.2.2 i ▸ open_)

theorem State.ExchangeLaw.set {a b : State} {i : Fin 128} {e : TillEntry} (law : a.ExchangeLaw)
    (h : b.tills = a.tills.set i e) (formed : ∀ x ∈ e.exchange, x.Formed) : b.ExchangeLaw := by
  intro j
  rw [h, getElem_set_fin]
  split
  · exact formed
  · exact law j

theorem Exchange.Awaits.formed {x y : Exchange} (awaits : x.Awaits y) (formed : x.Formed) : y.Formed := by
  obtain ⟨wrap, verify, deadline⟩ := formed
  rcases awaits with ⟨job, rfl⟩ | ⟨job, rfl⟩
  · have admitted := wrap.mp job
    refine ⟨by simp, ?_, deadline⟩
    rw [verify, admitted]
    simp
  · have verifying := verify.mp job
    refine ⟨?_, by simp, deadline⟩
    rw [wrap, verifying]
    simp

theorem deadlineOf_le (code : Byte) : deadlineOf code ≤ 255000 := by
  unfold deadlineOf
  split
  · omega
  · have := code.isLt
    omega

theorem exchangeLaw_workSteps : WorkSteps State.ExchangeLaw where
  same := .of_work
  finishLane {a} l h := by rwa [State.ExchangeLaw, a.finishLane_tills l]
  offerMgmt {a w} h _ := by rwa [State.ExchangeLaw, a.offerMgmt_tills w]
  acceptReply {a i x k rest} f h open_ awaiting _ := by
    refine h.set (i := i) (e := { a.tills[i] with exchange := some { x with phase := .verifying, verifyJob := some a.nextJob } }) ?_ ?_
    · exact State.enterJob_tills _ _
    · rintro _ ⟨⟩
      obtain ⟨wrap, _, deadline⟩ := h i x open_
      refine ⟨?_, by simp, deadline⟩
      rw [wrap, awaiting]
      simp
  close {a} i n h := by
    obtain ⟨sl, w, v, m, fr, fs, shape⟩ := a.closeExchange_shape i n
    exact h.set (i := i) (e := { a.tills[i] with exchange := none }) (by rw [shape]) nofun
  release _ _ _ h := h
  awaits {a i x y} h open_ awaits :=
    h.set (i := i) (e := { a.tills[i] with exchange := some y }) rfl (by
      rintro _ ⟨⟩
      exact awaits.formed (h i x open_))
  expired {a i x} h open_ :=
    h.set (i := i) (e := { a.tills[i] with exchange := some { x with expiredWhileVerifying := true } }) rfl (by
      rintro _ ⟨⟩
      exact h i x open_)
  tick {a} h i y open_ := by
    have entry : a.tickTills.tills[i].exchange = a.tills[i].exchange.map Exchange.tick := by simp [State.tickTills]
    rw [entry] at open_
    obtain ⟨x, was, rfl⟩ := Option.map_eq_some_iff.mp open_
    obtain ⟨wrap, verify, deadline⟩ := h i x was
    exact ⟨wrap, verify, Nat.le_trans (Nat.sub_le _ _) deadline⟩

theorem State.closed_exchangeLaw {s : State} (closed : ∀ i : Fin 128, s.tills[i].exchange = none) :
    s.ExchangeLaw := fun i x open_ => by
  rw [closed i] at open_
  cases open_

theorem State.withoutExchange_closed {s t : State} (tills : t.tills = s.tills.map TillEntry.withoutExchange)
    (i : Fin 128) : t.tills[i].exchange = none := by
  rw [tills]
  simp [TillEntry.withoutExchange]

theorem exchangeLaw_keeps : Keeps State.ExchangeLaw where
  ordinary := exchangeLaw_workSteps.ordinary
  items := exchangeLaw_workSteps.items fun h _ => h
  banks :=
    { openExchange := fun {a c} d b k rest f h _ _ _ _ _ => by
        refine h.set (i := c.till) (e := _) (State.enterJob_tills _ _) ?_
        rintro _ ⟨⟩
        exact ⟨by simp, by simp, deadlineOf_le _⟩
      commitStage := fun i g code keys given h => by
        unfold State.commitStage
        split <;> exact h
      switchSlot := fun h e => by obtain ⟨i, k, _, rfl⟩ := State.switchSlot_ok e; exact h
      retireSlot := fun h e => by obtain ⟨i, x, _, _, rfl⟩ := State.retireSlot_ok e; exact h }
  ends := exchangeLaw_workSteps.ends fun _ => State.closed_exchangeLaw (State.withoutExchange_closed rfl)
  starts := exchangeLaw_workSteps.starts (fun _ => State.closed_exchangeLaw (State.withoutExchange_closed rfl))
    (fun a => State.closed_exchangeLaw fun i => by simp [State.coldStart, TillEntry.cold])
    fun _ => State.closed_exchangeLaw (State.withoutExchange_closed rfl)

end Sys2Proof.Machine
end

section
/-! R43, R83, Table 5-1: till entries and exchange records. -/

open Sys2Proof Sys2Proof.Machine

/-- Settles O11: an operation moves the exchange or the statistics of a valid entry alone, and each record it writes is
formed. -/
theorem tillEntriesAndExchangesStayFormed : Obligations.TillEntriesAndExchangesStayFormed := fun _ _ laws e =>
  ⟨entryLaw_keeps.step laws.1 e, exchangeLaw_keeps.step laws.2 e⟩
end

section
/-! SUPPORT. Laws of the key slots: what the operations do to a bank (R57 to R64, R70 to R74). -/

namespace Sys2Proof.Machine

/-! ## Banks and slots -/

@[simp] theorem KeySlot.setBank_bank (k : KeySlot) (b c : BankId) (x : KeyBank) :
    (k.setBank b x).bank c = if b = c then x else k.bank c := by
  cases b <;> cases c <;> rfl

theorem State.setBank_slot (s : State) (k : Fin 16) (b : BankId) (x : KeyBank) (i : Fin 16) :
    (s.setBank k b x).slots[i] = if k = i then s.slots[k].setBank b x else s.slots[i] :=
  getElem_set_fin ..

theorem State.setBank_bank (s : State) (k i : Fin 16) (b c : BankId) (x : KeyBank) :
    (s.setBank k b x).bank i c = if k = i ∧ b = c then x else s.bank i c := by
  unfold State.bank
  rw [State.setBank_slot]
  by_cases same : k = i
  · subst same
    simp
  · simp [same]

theorem KeySlot.live_eq_some {k : KeySlot} {b : BankId} (h : k.live = some b) : (k.bank b).state = .live := by
  unfold KeySlot.live at h
  split at h
  next live => cases h; exact live
  · split at h
    next live => cases h; exact live
    · cases h

theorem KeySlot.staged_eq_some {k : KeySlot} {b : BankId} (h : k.staged = some b) : (k.bank b).state = .staged := by
  unfold KeySlot.staged at h
  split at h
  next staged => cases h; exact staged
  · split at h
    next staged => cases h; exact staged
    · cases h

/-- R60: a bank that passes the key test is LIVE and below its ceiling. -/
theorem keyTest_ok {k : KeySlot} {b : BankId} (h : keyTest k = .ok b) :
    (k.bank b).state = .live ∧ (k.bank b).counter < ceiling (k.bank b).ceilingCode := by
  unfold keyTest at h
  split at h
  · cases h
  next c found =>
    split at h
    · cases h
    next uses =>
      cases h
      have live := KeySlot.live_eq_some found
      refine ⟨live, ?_⟩
      simp only [KeyBank.remaining, live] at uses
      omega

/-- R63: a release moves the count alone, or empties a DRAINING bank. -/
theorem KeyBank.release_cases (b : KeyBank) (n : Nat) :
    b.release n = { b with refs := b.refs - n } ∨
      b.state = .draining ∧ b.refs - n = 0 ∧ b.release n = .cleared := by
  unfold KeyBank.release
  split
  next drained => exact .inr ⟨drained.1, drained.2, rfl⟩
  · exact .inl rfl

/-- R72, R73: a bank given up is EMPTY without references, else DRAINING. -/
theorem KeyBank.giveUp_cases (b : KeyBank) :
    b.refs = 0 ∧ b.giveUp = .cleared ∨ b.refs ≠ 0 ∧ b.giveUp = { b with state := .draining } := by
  unfold KeyBank.giveUp
  split
  next none => exact .inl ⟨none, rfl⟩
  next some => exact .inr ⟨some, rfl⟩

/-- R72: SWITCH makes the STAGED bank LIVE and gives the other up where it is LIVE. -/
theorem KeySlot.switch_cases {k u : KeySlot} (h : k.switch = some u) :
    ∃ b c, b ≠ c ∧ (k.bank b).state = .staged ∧ (u.bank b) = { k.bank b with state := .live } ∧
      u.bank c = if (k.bank c).state = .live then (k.bank c).giveUp else k.bank c := by
  unfold KeySlot.switch at h
  split at h
  next staged => cases h; exact ⟨.A, .B, by decide, staged, rfl, rfl⟩
  · split at h
    next staged => cases h; exact ⟨.B, .A, by decide, staged, rfl, rfl⟩
    · cases h

theorem BankId.eq_or_eq {b c : BankId} (other : b ≠ c) (d : BankId) : d = b ∨ d = c := by
  cases b <;> cases c <;> cases d <;> simp_all

/-! ## Laws slot by slot -/

/-- What every holder's coming and going keeps of a slot: a count moved, and a DRAINING bank emptied. -/
structure SlotSteps (K : Fin 16 → KeySlot → Prop) : Prop where
  refs : ∀ {i : Fin 16} {k : KeySlot} (b : BankId) (n : Nat), K i k → K i (k.setBank b { k.bank b with refs := n })
  drained : ∀ {i : Fin 16} {k : KeySlot} {b : BankId}, K i k → (k.bank b).state = .draining →
    K i (k.setBank b .cleared)

/-- The law of a predicate of every slot. -/
def SlotsLaw (K : Fin 16 → KeySlot → Prop) (s : State) : Prop := ∀ i : Fin 16, K i s.slots[i]

theorem SlotsLaw.of_slots {K : Fin 16 → KeySlot → Prop} {a b : State} (h : b.slots = a.slots)
    (law : SlotsLaw K a) : SlotsLaw K b := by
  unfold SlotsLaw
  rwa [h]

theorem SlotsLaw.set {K : Fin 16 → KeySlot → Prop} {a b : State} {i : Fin 16} {k : KeySlot}
    (law : SlotsLaw K a) (h : b.slots = a.slots.set i k) (slot : K i k) : SlotsLaw K b := by
  intro j
  rw [h, getElem_set_fin]
  split
  next same => exact same ▸ slot
  · exact law j

@[simp] theorem State.enterJob_slots (s : State) (j : Job) : (s.enterJob j).slots = s.slots := by
  obtain ⟨w, v, h⟩ := s.enterJob_shape j
  rw [h]

@[simp] theorem State.admitWaiting_slots (s : State) : s.admitWaiting.slots = s.slots := by
  obtain ⟨w, v, m, h⟩ := s.admitWaiting_shape
  rw [h]

@[simp] theorem State.removeJob_slots (s : State) (j : Job) : (s.removeJob j).slots = s.slots := by
  obtain ⟨fr, fs, h⟩ := s.removeJob_shape j
  rw [h]

variable {K : Fin 16 → KeySlot → Prop}

theorem SlotSteps.release (S : SlotSteps K) {a b : State} {i : Fin 16} {c : BankId} {n : Nat} (law : SlotsLaw K a)
    (h : b.slots = (a.releaseRefs i c n).slots) : SlotsLaw K b := by
  refine law.set (i := i) (k := a.slots[i].setBank c ((a.slots[i].bank c).release n)) h ?_
  rcases (a.slots[i].bank c).release_cases n with released | ⟨draining, _, released⟩ <;> rw [released]
  · exact S.refs c _ (law i)
  · exact S.drained (law i) draining

theorem SlotSteps.workSteps (S : SlotSteps K) : WorkSteps (SlotsLaw K) where
  same h law := law.of_slots (State.work_eq_iff.mp h).2.2.2.2.1
  finishLane {a} l law := by
    obtain ⟨w, v, m, h⟩ := a.finishLane_shape l
    exact law.of_slots (by rw [h])
  offerMgmt {a w} law _ := by
    obtain ⟨q, v, m, h⟩ := a.offerMgmt_shape w
    exact law.of_slots (by rw [h])
  acceptReply {a i x k rest} f law _ _ _ := by
    refine law.set (i := x.slot) ?_ (S.refs x.bank ((a.slots[x.slot].bank x.bank).refs + 1) (law x.slot))
    exact State.enterJob_slots _ _
  close {a} i n law := by
    rcases a.closeExchange_cases i n with ⟨_, h⟩ | ⟨x, _, _, h⟩ | ⟨x, j, _, _, _, h⟩ <;> rw [h]
    · exact law
    · exact S.release law rfl
    · refine S.release (i := x.slot) (c := x.bank) (n := 2) (law.of_slots (State.removeJob_slots (a.setExchange i none) j)) ?_
      exact State.admitWaiting_slots _
  release _ _ _ law := S.release law rfl
  awaits law _ _ := law.of_slots rfl
  expired law _ := law.of_slots rfl
  tick law := law.of_slots rfl

/-- The slots of a start and of an erase. -/
structure SlotStarts (K : Fin 16 → KeySlot → Prop) : Prop where
  kept : ∀ {i : Fin 16} {k : KeySlot}, K i k → K i k.afterStart
  cleared : ∀ i : Fin 16, K i .cleared

theorem SlotStarts.cleared_slots (S : SlotStarts K) {s : State} (h : s.slots = Vector.replicate 16 .cleared) :
    SlotsLaw K s := fun i => by
  have slot : s.slots[i] = .cleared := by simp [h]
  rw [slot]
  exact S.cleared i

theorem SlotStarts.loseWork (S : SlotStarts K) {s : State} (law : SlotsLaw K s) : SlotsLaw K s.loseWork := fun i => by
  have slot : s.loseWork.slots[i] = s.slots[i].afterStart := by simp [State.loseWork]
  rw [slot]
  exact S.kept (law i)

theorem SlotStarts.starts (S : SlotStarts K) (W : SlotSteps K) : Starts (SlotsLaw K) :=
  W.workSteps.starts S.loseWork (fun _ => S.cleared_slots rfl) fun _ => S.cleared_slots rfl

/-- What the items and the admission do to a slot. -/
structure SlotItems (K : Fin 16 → KeySlot → Prop) : Prop where
  charge : ∀ {i : Fin 16} {k : KeySlot} {b : BankId}, K i k → keyTest k = .ok b →
    K i (k.setBank b { k.bank b with counter := (k.bank b).counter + 1, refs := (k.bank b).refs + 2 })
  switch : ∀ {i : Fin 16} {k u : KeySlot}, K i k → k.switch = some u → K i u
  retire : ∀ {i : Fin 16} {k : KeySlot} {b : BankId}, K i k → k.live = some b → k.busy = false →
    K i (k.setBank b (k.bank b).giveUp)

/-- A commit and a discard, at a slot. -/
structure SlotStages (K : Fin 16 → KeySlot → Prop) : Prop where
  commit : ∀ {i : Fin 16} {k : KeySlot} {b : BankId} (g : Byte) (code : Fin 8) (keys : List Key)
    (given : List (Key × CheckValue)), K i k → k.stageTarget = some b →
    K i (k.setBank b (stagedBank g code keys given))
  discard : ∀ {i : Fin 16} {k : KeySlot} {b : BankId}, K i k → k.staged = some b → K i (k.setBank b .cleared)

theorem SlotStages.commits (S : SlotStages K) : Commits (SlotsLaw K) := by
  intro a i g code keys given law
  unfold State.commitStage
  split
  · exact law.of_slots rfl
  next b target => exact law.set (i := i) rfl (S.commit g code keys given (law i) target)

theorem SlotStages.items (S : SlotStages K) (W : SlotSteps K) : ItemRules (SlotsLaw K) :=
  W.workSteps.items fun {_ i _} law staged => law.set (i := i) rfl (S.discard (law i) staged)

theorem SlotItems.banks (I : SlotItems K) (S : SlotStages K) : BankRules (SlotsLaw K) where
  openExchange {a c} d {b _ _} f law _ _ key _ _ := by
    refine law.set (i := (a.tills[c.till]).slot) ?_ (I.charge (b := b) (law _) key)
    exact State.enterJob_slots _ _
  commitStage := S.commits
  switchSlot law e := by
    obtain ⟨i, k, switched, rfl⟩ := State.switchSlot_ok e
    exact law.set (i := i) rfl (I.switch (law i) switched)
  retireSlot law e := by
    obtain ⟨i, b, live, idle, rfl⟩ := State.retireSlot_ok e
    exact law.set (i := i) rfl (I.retire (law i) live idle)

/-- A law of every slot that the holders, the items and the starts keep. -/
theorem SlotSteps.keeps (W : SlotSteps K) (S : SlotStages K) (I : SlotItems K) (Z : SlotStarts K) :
    Keeps (SlotsLaw K) where
  ordinary := W.workSteps.ordinary
  items := S.items W
  banks := I.banks S
  ends := W.workSteps.ends Z.loseWork
  starts := Z.starts W

end Sys2Proof.Machine
end

section
/-! SUPPORT. The pairs of Table 4-3 and the rationing of every bank, slot by slot (R58, R59, R64). -/

namespace Sys2Proof.Machine

/-- R70: a commit fills the STAGED bank, or an EMPTY one of a slot without a STAGED bank. -/
theorem KeySlot.stageTarget_eq_some {k : KeySlot} {b : BankId} (h : k.stageTarget = some b) :
    (k.bank b).state = .staged ∨
      (k.bank b).state = .empty ∧ ∀ c, (k.bank c).state ≠ .staged := by
  unfold KeySlot.stageTarget at h
  split at h
  next staged => cases h; exact .inl staged
  next first =>
    split at h
    next staged => cases h; exact .inl staged
    next second =>
      have none_staged : ∀ c, (k.bank c).state ≠ .staged := fun c => by cases c <;> assumption
      split at h
      next empty => cases h; exact .inr ⟨empty, none_staged⟩
      · split at h
        next empty => cases h; exact .inr ⟨empty, none_staged⟩
        · cases h

/-! ## Pairs (R58) -/

theorem KeySlot.legal_iff (k : KeySlot) :
    k.Legal ↔ ∀ b c, b ≠ c → (k.bank b).state = (k.bank c).state → (k.bank b).state = .empty := by
  constructor
  · intro legal b c other same
    cases b <;> cases c
    · exact absurd rfl other
    · exact legal same
    · exact same.trans (legal same.symm)
    · exact absurd rfl other
  · exact fun h => h .A .B (by decide)

/-- A bank replaced keeps the pair legal where its state is as before, is EMPTY, or is not the other bank's. -/
theorem KeySlot.Legal.setBank {k : KeySlot} (legal : k.Legal) {b : BankId} {x : KeyBank}
    (fits : x.state = (k.bank b).state ∨ x.state = .empty ∨ ∀ c, c ≠ b → (k.bank c).state ≠ x.state) :
    (k.setBank b x).Legal := by
  cases b <;> simp only [KeySlot.setBank, KeySlot.bank, KeySlot.Legal] at legal fits ⊢ <;> intro same
  · rcases fits with h | h | h
    · exact h.trans (legal (h.symm.trans same))
    · exact h
    · exact absurd same.symm (h .B (by decide))
  · rcases fits with h | h | h
    · exact legal (same.trans h)
    · exact same.trans h
    · exact absurd same (h .A (by decide))

theorem legal_steps : SlotSteps fun _ k => k.Legal where
  refs _ _ legal := legal.setBank (.inl rfl)
  drained legal _ := legal.setBank (.inr (.inl rfl))

theorem legal_stages : SlotStages fun _ k => k.Legal where
  commit {_ k b} g code keys given legal target := by
    rcases KeySlot.stageTarget_eq_some target with staged | ⟨_, others⟩
    · exact legal.setBank (.inl staged.symm)
    · exact legal.setBank (.inr (.inr fun c _ => others c))
  discard legal _ := legal.setBank (.inr (.inl rfl))

theorem KeySlot.busy_eq_false {k : KeySlot} (h : k.busy = false) {b c : BankId} (other : c ≠ b)
    (live : (k.bank b).state = .live) : (k.bank c).state ≠ .draining := by
  intro draining
  cases b <;> cases c <;> simp_all [KeySlot.busy, KeySlot.bank]

theorem legal_items : SlotItems fun _ k => k.Legal where
  charge legal _ := legal.setBank (.inl rfl)
  switch {_ k u} legal switched := by
    obtain ⟨b, c, other, staged, live, given⟩ := KeySlot.switch_cases switched
    have newly : (u.bank b).state = .live := by rw [live]
    have rest : (u.bank c).state ≠ .live := by
      rw [given]
      split
      · rcases (k.bank c).giveUp_cases with ⟨_, h⟩ | ⟨_, h⟩ <;> rw [h] <;> simp [KeyBank.cleared]
      · assumption
    rw [KeySlot.legal_iff]
    intro d e apart same
    rcases BankId.eq_or_eq other d with rfl | rfl <;> rcases BankId.eq_or_eq other e with rfl | rfl
    · exact absurd rfl apart
    · exact absurd (same.symm.trans newly) rest
    · exact absurd (same.trans newly) rest
    · exact absurd rfl apart
  retire {_ k b} legal live idle := by
    have lives := KeySlot.live_eq_some live
    rcases (k.bank b).giveUp_cases with ⟨_, h⟩ | ⟨_, h⟩ <;> rw [h]
    · exact legal.setBank (.inr (.inl rfl))
    · exact legal.setBank (.inr (.inr fun c other => KeySlot.busy_eq_false idle other lives))

theorem KeyBank.afterStart_state (b : KeyBank) : b.afterStart.state = b.state ∨ b.afterStart.state = .empty := by
  unfold KeyBank.afterStart
  cases state : b.state <;> simp [KeyBank.cleared]

theorem legal_starts : SlotStarts fun _ k => k.Legal where
  kept {_ k} legal same := by
    change k.a.afterStart.state = k.b.afterStart.state at same
    change k.a.afterStart.state = .empty
    rcases k.a.afterStart_state with a | a
    · rcases k.b.afterStart_state with b | b
      · exact a.trans (legal (a.symm.trans (same.trans b)))
      · exact same.trans b
    · exact a
  cleared _ _ := rfl

theorem pairLaw_keeps : Keeps State.PairLaw := legal_steps.keeps legal_stages legal_items legal_starts

/-! ## Rationing (R57, R59, R64) -/

theorem KeyBank.cleared_rationed : KeyBank.cleared.Rationed := ⟨by decide, fun _ => rfl, fun _ => rfl⟩

/-- A slot both of whose banks are rationed. -/
def KeySlot.Rationed (k : KeySlot) : Prop := k.a.Rationed ∧ k.b.Rationed

theorem KeySlot.rationed_iff (k : KeySlot) : k.Rationed ↔ ∀ b, (k.bank b).Rationed :=
  ⟨fun h b => by cases b; exacts [h.1, h.2], fun h => ⟨h .A, h .B⟩⟩

theorem KeySlot.Rationed.setBank {k : KeySlot} (law : k.Rationed) {b : BankId} {x : KeyBank} (bank : x.Rationed) :
    (k.setBank b x).Rationed := by
  rw [KeySlot.rationed_iff] at law ⊢
  intro c
  rw [KeySlot.setBank_bank]
  split
  · exact bank
  · exact law c

theorem KeySlot.Rationed.bank {k : KeySlot} (law : k.Rationed) (b : BankId) : (k.bank b).Rationed :=
  k.rationed_iff.mp law b

theorem KeyBank.Rationed.withRefs {b : KeyBank} (law : b.Rationed) (n : Nat) : ({ b with refs := n } : KeyBank).Rationed :=
  ⟨law.1, law.2.1, fun empty => by
    have values := law.2.2 empty
    rw [values]⟩

theorem KeyBank.Rationed.giveUp {b : KeyBank} (law : b.Rationed) : b.giveUp.Rationed := by
  rcases b.giveUp_cases with ⟨_, h⟩ | ⟨_, h⟩ <;> rw [h]
  · exact KeyBank.cleared_rationed
  · exact ⟨law.1, nofun, nofun⟩

theorem rationed_steps : SlotSteps fun _ k => k.Rationed where
  refs b n law := law.setBank ((law.bank b).withRefs n)
  drained law _ := law.setBank KeyBank.cleared_rationed

theorem rationed_stages : SlotStages fun _ k => k.Rationed where
  commit _ _ _ _ law _ := law.setBank ⟨Nat.zero_le _, fun _ => rfl, nofun⟩
  discard law _ := law.setBank KeyBank.cleared_rationed

theorem rationed_items : SlotItems fun _ k => k.Rationed where
  charge {_ k b} law key := by
    obtain ⟨live, below⟩ := keyTest_ok key
    refine law.setBank ⟨below, fun staged => ?_, fun empty => ?_⟩
    · exact absurd (live.symm.trans staged) (by decide)
    · exact absurd (live.symm.trans empty) (by decide)
  switch {_ k u} law switched := by
    obtain ⟨b, c, other, staged, live, given⟩ := KeySlot.switch_cases switched
    rw [KeySlot.rationed_iff]
    intro d
    rcases BankId.eq_or_eq other d with rfl | rfl
    · rw [live]
      exact ⟨(law.bank d).1, nofun, nofun⟩
    · rw [given]
      split
      · exact (law.bank d).giveUp
      · exact law.bank d
  retire {_ _ b} law _ _ := law.setBank (law.bank b).giveUp

theorem KeyBank.Rationed.afterStart {b : KeyBank} (law : b.Rationed) : b.afterStart.Rationed := by
  unfold KeyBank.afterStart
  split
  · exact KeyBank.cleared_rationed
  · exact KeyBank.cleared_rationed
  · exact law.withRefs 0
  · exact law.withRefs 0

theorem rationed_starts : SlotStarts fun _ k => k.Rationed where
  kept law := ⟨law.1.afterStart, law.2.afterStart⟩
  cleared _ := ⟨KeyBank.cleared_rationed, KeyBank.cleared_rationed⟩

theorem rationLaw_keeps : Keeps State.RationLaw := rationed_steps.keeps rationed_stages rationed_items rationed_starts

end Sys2Proof.Machine
end

section
/-! SUPPORT. How a bank's counter moves (R61). -/

namespace Sys2Proof.Machine

/-- The bank `c` comes of `o` without an admission: only its count has moved, or it is EMPTY or STAGED with counter 0. -/
def KeyBank.Unspent (o c : KeyBank) : Prop :=
  (∃ n, c = { o with refs := n }) ∨ c.counter = 0 ∧ (c.state = .empty ∨ c.state = .staged)

/-- Both banks of a slot come of the banks `o` without an admission. -/
def KeySlot.Unspent (o k : KeySlot) : Prop := ∀ b, (o.bank b).Unspent (k.bank b)

theorem KeySlot.Unspent.refl (o : KeySlot) : o.Unspent o := fun _ => .inl ⟨_, rfl⟩

theorem KeySlot.Unspent.setBank {o k : KeySlot} (h : o.Unspent k) {b : BankId} {x : KeyBank}
    (bank : (o.bank b).Unspent x) : o.Unspent (k.setBank b x) := by
  intro c
  rw [KeySlot.setBank_bank]
  split
  next same => exact same ▸ bank
  · exact h c

theorem KeyBank.Unspent.withRefs {o c : KeyBank} (h : o.Unspent c) (n : Nat) :
    o.Unspent { c with refs := n } := by
  rcases h with ⟨m, rfl⟩ | zero
  · exact .inl ⟨n, rfl⟩
  · exact .inr zero

theorem KeyBank.unspent_cleared (o : KeyBank) : o.Unspent .cleared := .inr ⟨rfl, .inl rfl⟩

variable (o : Vector KeySlot 16)

theorem unspent_steps : SlotSteps fun i k => o[i].Unspent k where
  refs b n h := h.setBank ((h b).withRefs n)
  drained h _ := h.setBank (KeyBank.unspent_cleared _)

theorem unspent_stages : SlotStages fun i k => o[i].Unspent k where
  commit _ _ _ _ h _ := h.setBank (.inr ⟨rfl, .inr rfl⟩)
  discard h _ := h.setBank (KeyBank.unspent_cleared _)

theorem KeyBank.Unspent.afterStart {o c : KeyBank} (h : o.Unspent c) : o.Unspent c.afterStart := by
  unfold KeyBank.afterStart
  split
  · exact KeyBank.unspent_cleared _
  · exact KeyBank.unspent_cleared _
  · exact h.withRefs 0
  · exact h.withRefs 0

theorem unspent_starts : SlotStarts fun i k => o[i].Unspent k where
  kept h b := by
    rw [KeySlot.afterStart_bank]
    exact (h b).afterStart
  cleared _ b := by cases b <;> exact KeyBank.unspent_cleared _

/-- R61: the move of one bank's counter over a command. -/
def KeyBank.CounterMoves (charged : Prop) (b c : KeyBank) : Prop :=
  c.counter = b.counter ∨ (c.counter = 0 ∧ (c.state = .empty ∨ c.state = .staged)) ∨
    charged ∧ b.state = .live ∧ c.counter = b.counter + 1 ∧ b.counter < ceiling b.ceilingCode

theorem KeyBank.Unspent.moves {o c : KeyBank} (h : o.Unspent c) (charged : Prop) : o.CounterMoves charged c := by
  rcases h with ⟨n, rfl⟩ | zero
  · exact .inl rfl
  · exact .inr (.inl zero)

/-- A write item leaves the slots, or leaves those of its rule. -/
theorem writeItem_slots {code : Nat} {rule : State → Bytes → Except ResultCode State} {s t : State}
    (e : writeItem code rule s = .next t) :
    t.slots = s.slots ∨ ∃ b u, rule s.dropStage b = .ok u ∧ t.slots = u.slots := by
  have dropped : s.dropStage.slots = s.slots := by rw [State.dropStage_eq]
  rcases itemEvent_cases false (· == code) _ s with ⟨_, n⟩ | ⟨c, item, hand, _, ⟨r, _, n⟩ | ⟨_, n⟩⟩ <;>
    cases n.symm.trans e
  · exact .inl rfl
  · exact .inl (conclude_settles ..).slots
  · rw [(conclude_settles ..).slots]
    split
    next u done => exact .inr ⟨item.body, u, done, rfl⟩
    · exact .inl dropped

/-- An admission charges one bank, LIVE and below its ceiling, and leaves every other (R61). -/
theorem openExchange_moves {s a : State} (h : SlotsLaw (fun i k => s.slots[i].Unspent k) a) {c : Capture}
    (d : Destination) {b : BankId} {k : Fin 64} {rest : List (Fin 64)} (f : Bytes)
    (key : keyTest a.slots[(a.tills[c.till]).slot] = .ok b) (charged : Prop) (holds : charged) (i : Fin 16)
    (x : BankId) : (s.bank i x).CounterMoves charged ((a.openExchange c d b k rest f).bank i x) := by
  have slots : (a.openExchange c d b k rest f).bank i x =
      if (a.tills[c.till]).slot = i ∧ b = x then
        { a.bank (a.tills[c.till]).slot b with
          counter := (a.bank (a.tills[c.till]).slot b).counter + 1
          refs := (a.bank (a.tills[c.till]).slot b).refs + 2 }
      else a.bank i x := by
    rw [← State.setBank_bank]
    unfold State.bank
    exact congrArg (fun v : Vector KeySlot 16 => v[i].bank x) (State.enterJob_slots _ _)
  rw [slots]
  split
  next named =>
    obtain ⟨rfl, rfl⟩ := named
    obtain ⟨live, below⟩ := keyTest_ok key
    refine .inr (.inr ⟨holds, ?_⟩)
    rcases h (a.tills[c.till]).slot b with ⟨n, same⟩ | ⟨_, empty | staged⟩
    · change a.bank _ b = _ at same
      change (a.bank _ b).state = .live at live
      change (a.bank _ b).counter < ceiling (a.bank _ b).ceilingCode at below
      rw [same] at live below ⊢
      exact ⟨live, rfl, below⟩
    · exact absurd (live.symm.trans empty) (by decide)
    · exact absurd (live.symm.trans staged) (by decide)
  · exact (h i x).moves charged

theorem KeyBank.giveUp_moves (b : KeyBank) (charged : Prop) : b.CounterMoves charged b.giveUp := by
  rcases b.giveUp_cases with ⟨_, h⟩ | ⟨_, h⟩ <;> rw [h]
  · exact .inr (.inl ⟨rfl, .inl rfl⟩)
  · exact .inl rfl

/-- SWITCH and RETIRE charge no bank (R72, R73). -/
theorem switch_moves {k u : KeySlot} (h : k.switch = some u) (charged : Prop) (b : BankId) :
    (k.bank b).CounterMoves charged (u.bank b) := by
  obtain ⟨x, y, other, staged, live, given⟩ := KeySlot.switch_cases h
  rcases BankId.eq_or_eq other b with rfl | rfl
  · rw [live]
    exact .inl rfl
  · rw [given]
    split
    · exact KeyBank.giveUp_moves _ _
    · exact .inl rfl

/-- R61, over the commands: what moves the counter of a bank. -/
theorem exec_counter {c : Instr} {s t : State} (e : exec c s = .next t) (i : Fin 16) (b : BankId) :
    (s.bank i b).CounterMoves (∃ wire, c = .frameReceived .T wire) (t.bank i b) := by
  have W := (unspent_steps s.slots).workSteps
  have O := W.ordinary
  have start : SlotsLaw (fun i k => s.slots[i].Unspent k) s := fun i => .refl _
  have unmoved : t.slots = s.slots → (s.bank i b).CounterMoves (∃ wire, c = .frameReceived .T wire) (t.bank i b) :=
    fun h => .inl (by simp only [State.bank, h])
  by_cases moves : movesBanks c = true
  · unfold movesBanks at moves
    split at moves
    next wire =>
      rcases O.frameReceived start e with kept | ⟨_, u, opens, rfl⟩
      · exact (kept i b).moves _
      · obtain ⟨a, c, d, x, k, rest, f, kept, _, _, key, _, _, rfl⟩ := opens
        have settled := (conclude_settles false s (a.openExchange c d x k rest f)).slots
        have charged := openExchange_moves kept d (k := k) (rest := rest) f key
          (∃ w, Instr.frameReceived .T wire = .frameReceived .T w) ⟨wire, rfl⟩ i b
        unfold State.bank at charged ⊢
        rwa [settled]
    · exact (O.keyUnwrapResult (unspent_stages s.slots).commits start e i b).moves _
    · rcases writeItem_slots (by unfold exec execSwitch at e; exact e) with h | ⟨body, u, done, h⟩
      · exact unmoved h
      · obtain ⟨j, k, switched, rfl⟩ := State.switchSlot_ok done
        rw [State.dropStage_eq] at switched h
        unfold State.bank
        rw [h, getElem_set_fin]
        split
        next same => exact same ▸ switch_moves switched _ b
        · exact .inl rfl
    · rcases writeItem_slots (by unfold exec execRetire at e; exact e) with h | ⟨body, u, done, h⟩
      · exact unmoved h
      · obtain ⟨j, x, _, _, rfl⟩ := State.retireSlot_ok done
        have same : t.bank i b = (s.setBank j x (s.bank j x).giveUp).bank i b := by
          rw [State.dropStage_eq] at h
          unfold State.bank
          rw [h]
          rfl
        rw [same, State.setBank_bank]
        split
        next named => obtain ⟨rfl, rfl⟩ := named; exact KeyBank.giveUp_moves _ _
        · exact .inl rfl
    · cases moves
  · exact (O.exec_keeps ((unspent_stages s.slots).items (unspent_steps s.slots)) (fun h => absurd h moves)
      (fun _ => W.ends (unspent_starts s.slots).loseWork)
      (fun _ => (unspent_starts s.slots).starts (unspent_steps s.slots)) start e i b).moves _

end Sys2Proof.Machine
end

section
/-! R61: bank counters. -/

open Sys2Proof Sys2Proof.Machine

/-- Settles O5: outside an admission a bank keeps its counter, is emptied or is newly staged; SWITCH and RETIRE keep the
counter of a bank that they do not empty. -/
theorem bankCountersRiseAtAdmissionOnly : Obligations.BankCountersRiseAtAdmissionOnly := by
  intro c s t e k b
  rcases exec_counter e k b with same | zero | ⟨⟨wire, command⟩, live, counter, below⟩
  · exact .inl same
  · exact .inr (.inl zero)
  · exact .inr (.inr ⟨wire, command, live, counter, below⟩)
end

section
/-! SUPPORT. The ports and the output buffers: what the operations on the engine, the banks and the exchanges leave alone,
and when a law of them is kept by every command. -/

namespace Sys2Proof.Machine

/-! ## What the engine leaves -/

/-- The ports, the buffers whose frames wait for them, and MGU's state. -/
def State.sides (s : State) : PortState × PortState × Vector (Option Bytes) 16 × Option WaitingNotice × Option Bytes ×
    MguState × Bytes :=
  (s.portT, s.portL, s.standIns, s.noticeWaiting, s.noticeSending, s.mgu, s.responseFrame)

theorem State.sides_eq_iff {a b : State} :
    b.sides = a.sides ↔ b.portT = a.portT ∧ b.portL = a.portL ∧ b.standIns = a.standIns ∧
      b.noticeWaiting = a.noticeWaiting ∧ b.noticeSending = a.noticeSending ∧ b.mgu = a.mgu ∧
      b.responseFrame = a.responseFrame := by
  simp [State.sides]

theorem State.port_of_sides {a b : State} (h : b.sides = a.sides) (p : PortId) : b.port p = a.port p := by
  obtain ⟨portT, portL, _⟩ := State.sides_eq_iff.mp h
  cases p
  · exact portT
  · exact portL

variable (s : State)

@[simp] theorem State.latch_sides (e : EventSource) : (s.latch e).sides = s.sides := rfl

@[simp] theorem State.bump_sides (c : Counter) : (s.bump c).sides = s.sides := by rw [State.bump_eq]; rfl

@[simp] theorem State.bumpStat_sides (i : Fin 128) (k : Stat) : (s.bumpStat i k).sides = s.sides := by
  rw [State.bumpStat_eq]; rfl

@[simp] theorem State.guardBlocked_sides : s.guardBlocked.sides = s.sides := by simp [State.guardBlocked]

@[simp] theorem State.freeFrame_sides (i : Fin 64) : (s.freeFrame i).sides = s.sides := rfl

@[simp] theorem State.setExchange_sides (i : Fin 128) (x : Option Exchange) : (s.setExchange i x).sides = s.sides := rfl

@[simp] theorem State.setTill_sides (i : Fin 128) (e : TillEntry) : (s.setTill i e).sides = s.sides := rfl

@[simp] theorem State.setBank_sides (k : Fin 16) (b : BankId) (x : KeyBank) : (s.setBank k b x).sides = s.sides := rfl

@[simp] theorem State.releaseRefs_sides (k : Fin 16) (b : BankId) (n : Nat) : (s.releaseRefs k b n).sides = s.sides := rfl

@[simp] theorem State.enterJob_sides (j : Job) : (s.enterJob j).sides = s.sides := by
  obtain ⟨w, v, h⟩ := s.enterJob_shape j
  rw [h]; rfl

@[simp] theorem State.offerMgmt_sides (w : JobWork) : (s.offerMgmt w).sides = s.sides := by
  obtain ⟨q, v, m, h⟩ := s.offerMgmt_shape w
  rw [h]; rfl

@[simp] theorem State.finishLane_sides (l : Fin 4) : (s.finishLane l).sides = s.sides := by
  obtain ⟨w, v, m, h⟩ := s.finishLane_shape l
  rw [h]; rfl

@[simp] theorem State.closeExchange_sides (i : Fin 128) (n : Nat) : (s.closeExchange i n).sides = s.sides := by
  obtain ⟨sl, w, v, m, fr, fs, h⟩ := s.closeExchange_shape i n
  rw [h]; rfl

@[simp] theorem State.countStandIn_sides (i : Fin 128) (r : Reason) : (s.countStandIn i r).sides = s.sides := by
  unfold State.countStandIn
  dsimp only
  split <;> simp

@[simp] theorem State.acceptReply_sides (i : Fin 128) (x : Exchange) (k : Fin 64) (rest : List (Fin 64)) (f : Bytes) :
    (s.acceptReply i x k rest f).sides = s.sides := by
  unfold State.acceptReply
  exact State.enterJob_sides _ _

@[simp] theorem State.openExchange_sides (c : Capture) (d : Destination) (b : BankId) (k : Fin 64)
    (rest : List (Fin 64)) (f : Bytes) : (s.openExchange c d b k rest f).sides = s.sides := by
  unfold State.openExchange
  exact State.enterJob_sides _ _

@[simp] theorem State.wrapTaken_sides (t : JobTarget) (x : Exchange) : (s.wrapTaken t x).sides = s.sides := by
  simp [State.wrapTaken]

@[simp] theorem State.wrapBuilt_sides (t : JobTarget) (c : Capture) (d : Destination) (v : WrapValues) :
    (s.wrapBuilt t c d v).sides = s.sides := rfl

@[simp] theorem State.commitStage_sides (i : Fin 16) (b : KeyBank) : (s.commitStage i b).sides = s.sides := by
  unfold State.commitStage
  split <;> rfl

/-! ## Laws of the sides that each single operation keeps -/

/-- `P` is a law of the ports and their buffers alone, which each single operation on them keeps. -/
structure SideSteps (P : State → Prop) : Prop where
  same : ∀ {a b : State}, b.sides = a.sides → P a → P b
  receive : ∀ {a : State} (p : PortId) (f : Option Bytes), P a → P (a.setReceive p f)
  mgu : ∀ {a : State} {m : MguState}, P a → a.mgu ≠ .answering → m ≠ .answering → P { a with mgu := m }
  arpArrive : ∀ {a : State} (p : PortId) (f : Bytes), P a → P (a.arpArrive p f)
  offerBridge : ∀ {a : State} (p : PortId) (f : Bytes), P a → P (a.offerBridge p f)
  offerStandIn : ∀ {a : State} {k : Fin 16} (f : Bytes), P a → a.standIns[k] = none →
    P (({ a with standIns := a.standIns.set k (some f) } : State).offerOwn .T (.standIn k)).1
  offerWrapped : ∀ {a : State} (k : Fin 64), P a → P (a.offerOwn .L (.wrapped k)).1
  offerForwarded : ∀ {a : State} (k : Fin 64), P a → P (a.offerOwn .T (.forwarded k)).1
  askNotice : ∀ {a : State}, P a → P a.askNotice
  linkUp : ∀ {a : State} {p : PortId}, P a → (a.port p).link = .down →
    P ((a.setPort p { a.port p with link := .up }).arbiter p)

namespace SideSteps

variable {P : State → Prop} {s : State} (S : SideSteps P)
include S

theorem buildStandIn (i : Fin 128) (r : Reason) (q : Option Sequence) (port : UdpPort) (h : P s) :
    P (s.buildStandIn i r q port) := by
  unfold State.buildStandIn
  split
  · exact S.same (State.bump_sides _ _) h
  next k free =>
    exact S.offerStandIn (a := { s with ident := s.ident + 1 }) _ (S.same (a := s) rfl h) (firstFree_eq_some free)

theorem standIn (i : Fin 128) (r : Reason) (q : Option Sequence) (port : UdpPort) (h : P s) :
    P (s.standIn i r q port) := S.buildStandIn i r q port (S.same (s.countStandIn_sides i r) h)

theorem closeLost (i : Fin 128) (x : Exchange) (n : Nat) (h : P s) : P (s.closeLost i x n) :=
  S.standIn _ _ _ _ (S.same (by simp) h)

theorem sendWrapped (t : JobTarget) (c : Capture) (d : Destination) (v : WrapValues) (x : Exchange) (h : P s) :
    P (s.sendWrapped t c d v x) := by
  have offered := S.offerWrapped t.frame (S.same (s.wrapBuilt_sides t c d v) h)
  rw [State.sendWrapped_eq]
  dsimp only
  split
  · exact S.same (State.wrapTaken_sides _ _ _) offered
  · exact S.standIn _ _ _ _ (S.same (State.closeExchange_sides _ _ _) offered)

theorem forwardReply (t : JobTarget) (n : Nat) (x : Exchange) (h : P s) : P (s.forwardReply t n x) := by
  refine S.same ?_ (S.offerForwarded t.frame (S.same (a := s) (b := {
    s with frames := s.frames.set t.frame (s.forwardedFrame t n x), ident := s.ident + 1 }) rfl h))
  exact (State.bump_sides _ _).trans (State.closeExchange_sides _ _ _)

theorem failReply (t : JobTarget) (x : Exchange) (h : P s) : P (s.failReply t x) := by
  have told : P (((s.freeFrame t.frame).latch .tagFail).bump .tagFailures) := S.same (by simp) h
  unfold State.failReply
  dsimp only
  split
  · exact S.closeLost _ _ _ told
  · exact S.same (by simp) told

theorem ordinary : Ordinary P where
  aside {a b} h e := S.same (a := a) (b := b) (by rw [e]; rfl) h
  receive p f h := S.receive p f h
  mgu h now next := S.mgu h now next
  offerMgmt h _ := S.same (State.offerMgmt_sides _ _) h
  arpArrive p f h := S.arpArrive p f h
  offerBridge p f h := S.offerBridge p f h
  standIn r q port h _ := S.standIn _ r q port h
  acceptReply _ h _ _ _ _ _ := S.same (by simp) h
  close _ h := S.same (by simp) h
  lost h _ := S.closeLost _ _ _ h
  expired h _ := S.same (by simp) h
  tick {a} h := S.same (a := a) rfl h
  finishMgmt h _ _ := S.same (by simp) h
  discard {a l _ t} h _ _ := S.same ((State.releaseRefs_sides _ _ _ _).trans (a.finishLane_sides l)) h
  sendWrapped {a l _ t c d v x} h _ _ _ := S.sendWrapped t c d v x (S.same (a.finishLane_sides l) h)
  forwardReply {a l _ t _ n _ x} h _ _ _ := S.forwardReply t n x (S.same (a.finishLane_sides l) h)
  failReply {a l _ t _ _ _ x} h _ _ _ := S.failReply t x (S.same (a.finishLane_sides l) h)
  askNotice h := S.askNotice h
  linkUp h down := S.linkUp h down

theorem items : ItemRules P where
  writeSettings h e := by obtain ⟨x, _, rfl⟩ := State.writeSettings_ok e; exact S.same (by rfl) h
  writeTill h e := by obtain ⟨i, f, _, _, _, rfl⟩ := State.writeTill_ok e; exact S.same (by simp) h
  clearTill h e := by obtain ⟨i, _, rfl⟩ := State.clearTill_ok e; exact S.same (by simp) h
  writeRule h e := by obtain ⟨i, r, _, rfl⟩ := State.writeRule_ok e; exact S.same (by rfl) h
  clearRule h e := by obtain ⟨i, _, rfl⟩ := State.clearRule_ok e; exact S.same (by rfl) h
  writeLocator h e := by obtain ⟨i, l, _, rfl⟩ := State.writeLocator_ok e; exact S.same (by rfl) h
  clearLocator h e := by obtain ⟨i, _, rfl⟩ := State.clearLocator_ok e; exact S.same (by rfl) h
  writeDestination h e := by obtain ⟨i, _, rfl⟩ := State.writeDestination_ok e; exact S.same (by rfl) h
  clearDestination h e := by obtain ⟨i, _, rfl⟩ := State.clearDestination_ok e; exact S.same (by rfl) h
  discardStage h e := by obtain ⟨i, x, _, rfl⟩ := State.discardStage_ok e; exact S.same (by rfl) h
  writeEventMap h e := by obtain ⟨m, _, _, rfl⟩ := State.writeEventMap_ok e; exact S.same (by rfl) h
  clearCounters h := S.same (by rfl) h

theorem banks : BankRules P where
  openExchange _ _ _ _ _ h _ _ _ _ _ := S.same (by simp) h
  commitStage := fun _ _ _ _ _ h => S.same (by simp) h
  switchSlot h e := by obtain ⟨i, k, _, rfl⟩ := State.switchSlot_ok e; exact S.same (by rfl) h
  retireSlot h e := by obtain ⟨i, x, _, _, rfl⟩ := State.retireSlot_ok e; exact S.same (by rfl) h

end SideSteps

end Sys2Proof.Machine
end

section
/-! SUPPORT. The law of the ports (R6, R7, R20). -/

namespace Sys2Proof.Machine

variable {s : State}

/-! ## Ports under the operations -/

theorem State.setPort_get (s : State) (p q : PortId) (x : PortState) :
    (s.setPort p x).port q = if p = q then x else s.port q := by
  cases p <;> cases q <;> rfl

theorem State.portLaw_iff (s : State) : s.PortLaw ↔ ∀ p, (s.port p).Served :=
  ⟨fun h p => by cases p; exacts [h.1, h.2], fun h => ⟨h .T, h .L⟩⟩

/-- A port whose link is DOWN holds no outgoing work. -/
def PortState.Shut (x : PortState) : Prop :=
  x.link = .down → x.ownQueue = [] ∧ x.bridge = [] ∧ x.sending = none

theorem PortState.Served.shut {x : PortState} (h : x.Served) : x.Shut := fun down =>
  ⟨(h.1 (.inl down)).1, (h.1 (.inl down)).2, h.2 down⟩

/-- What the laws of the ports read of a port. -/
def PortState.traffic (x : PortState) : Link × Option Sending × List OwnEntry × List Bytes :=
  (x.link, x.sending, x.ownQueue, x.bridge)

theorem PortState.Served.congr {x y : PortState} (h : x.Served) (same : y.traffic = x.traffic) : y.Served := by
  simp only [PortState.traffic, Prod.mk.injEq] at same
  obtain ⟨link, sending, queue, bridge⟩ := same
  unfold PortState.Served
  rwa [link, sending, queue, bridge]

theorem State.arbiter_other (s : State) {p q : PortId} (other : p ≠ q) : (s.arbiter p).port q = s.port q := by
  obtain ⟨x, w, n, h, _⟩ := s.arbiter_shape p
  have port : (s.arbiter p).port q = (s.setPort p x).port q := by rw [h]; cases q <;> rfl
  rw [port, State.setPort_get, if_neg other]

/-- R20: after the arbiter's act an UP port with an IDLE transmitter has nothing waiting. -/
theorem State.arbiter_served {p : PortId} (shut : (s.port p).Shut) : ((s.arbiter p).port p).Served := by
  rcases s.arbiter_cases p with ⟨same, at_rest⟩ | ⟨f, rest, _, up, _, _, took⟩ | ⟨e, rest, _, up, _, _, took⟩
  · rw [same]
    refine ⟨fun idle => ?_, fun down => (shut down).2.2⟩
    rcases at_rest with busy | down | ⟨bridge, queue⟩
    · rcases idle with down | none
      · exact ⟨(shut down).1, (shut down).2.1⟩
      · rw [none] at busy; cases busy
    · exact ⟨(shut down).1, (shut down).2.1⟩
    · exact ⟨queue, bridge⟩
  · have port : (s.arbiter p).port p =
        { s.port p with
          sending := some { kind := .bridged, frame := f, wire := wireImage f }
          lastServed := .bridge
          bridge := rest } := by rw [took]; cases p <;> rfl
    rw [port]
    refine ⟨?_, fun down => absurd (up.symm.trans down) (by decide)⟩
    rintro (down | none)
    · exact absurd (up.symm.trans down) (by decide)
    · cases none
  · have port : (s.arbiter p).port p =
        { s.port p with
          sending := some { kind := .own e, frame := s.heldFrame p e, wire := wireImage (s.heldFrame p e) }
          lastServed := .own
          ownQueue := rest } := by rw [took]; cases e <;> cases p <;> rfl
    rw [port]
    refine ⟨?_, fun down => absurd (up.symm.trans down) (by decide)⟩
    rintro (down | none)
    · exact absurd (up.symm.trans down) (by decide)
    · cases none

/-- The other ports are served and port `p`, if it is DOWN, is empty. -/
def State.ServedBut (s : State) (p : PortId) : Prop := (s.port p).Shut ∧ ∀ q, q ≠ p → (s.port q).Served

theorem State.ServedBut.arbiter {p : PortId} (h : s.ServedBut p) : (s.arbiter p).PortLaw := by
  refine (State.portLaw_iff _).mpr fun q => ?_
  by_cases same : q = p
  · subst same
    exact State.arbiter_served h.1
  · rw [s.arbiter_other (Ne.symm same)]
    exact h.2 q same

theorem State.PortLaw.setPort (h : s.PortLaw) {p : PortId} {x : PortState} (port : x.Shut) :
    (s.setPort p x).ServedBut p := by
  refine ⟨?_, fun q other => ?_⟩
  · rw [State.setPort_get, if_pos rfl]
    exact port
  · rw [State.setPort_get, if_neg (Ne.symm other)]
    exact s.portLaw_iff.mp h q

theorem State.PortLaw.of_ports {a b : State} (h : a.PortLaw) (same : ∀ p, (b.port p).traffic = (a.port p).traffic) :
    b.PortLaw :=
  b.portLaw_iff.mpr fun p => (a.portLaw_iff.mp h p).congr (same p)

/-- The traffic of the ports is left by a change of buffers. -/
theorem State.setPort_traffic (s : State) (p q : PortId) {x : PortState} (same : x.traffic = (s.port p).traffic) :
    ((s.setPort p x).port q).traffic = (s.port q).traffic := by
  rw [State.setPort_get]
  split
  next h => rw [← h, same]
  · rfl

theorem State.releaseEntry_traffic (s : State) (p : PortId) (e : OwnEntry) (q : PortId) :
    ((s.releaseEntry p e).port q).traffic = (s.port q).traffic := by
  cases e with
  | arp b => exact s.setPort_traffic p q rfl
  | wrapped i | forwarded i | standIn e | response | notice => cases q <;> rfl

theorem State.guardBlocked_port (s : State) (p : PortId) : s.guardBlocked.port p = s.port p :=
  State.port_of_sides s.guardBlocked_sides p

theorem State.bump_port (s : State) (c : Counter) (p : PortId) : (s.bump c).port p = s.port p :=
  State.port_of_sides (s.bump_sides c) p

theorem State.PortLaw.offerOwn (h : s.PortLaw) (p : PortId) (e : OwnEntry) : (s.offerOwn p e).1.PortLaw := by
  rcases s.offerOwn_cases p e with ⟨_, r⟩ | ⟨_, _, _, r⟩ | ⟨up, _, r⟩ <;> rw [r]
  · exact h.of_ports (s.releaseEntry_traffic p e)
  · refine h.of_ports fun q => ?_
    rw [State.releaseEntry_traffic, State.guardBlocked_port]
  · refine State.ServedBut.arbiter (h.setPort ?_)
    exact fun down => absurd (up.symm.trans down) (by decide)

theorem State.PortLaw.offerBridge (h : s.PortLaw) (p : PortId) (f : Bytes) : (s.offerBridge p f).PortLaw := by
  rcases s.offerBridge_cases p f with ⟨_, r⟩ | ⟨_, _, _, r⟩ | ⟨_, _, _, r⟩ | ⟨up, _, _, r⟩ <;> rw [r]
  · exact h.of_ports fun q => by rw [State.bump_port]
  · exact h.of_ports fun q => by rw [State.guardBlocked_port]
  · exact h.of_ports fun q => by rw [State.bump_port]
  · refine State.ServedBut.arbiter (h.setPort ?_)
    exact fun down => absurd (up.symm.trans down) (by decide)

theorem portLaw_sideSteps : SideSteps State.PortLaw where
  same h law := law.of_ports fun p => by rw [State.port_of_sides h p]
  receive {a} p f law := law.of_ports fun q => a.setPort_traffic p q rfl
  mgu law _ _ := law
  arpArrive {a} p f law := by
    unfold State.arpArrive
    split
    · exact law
    · refine State.PortLaw.offerOwn ?_ p _
      exact law.of_ports fun q => a.setPort_traffic p q rfl
  offerBridge p f law := law.offerBridge p f
  offerStandIn {a k} f law _ := by
    refine State.PortLaw.offerOwn ?_ .T _
    exact law.of_ports fun q => by cases q <;> rfl
  offerWrapped k law := law.offerOwn .L _
  offerForwarded k law := law.offerOwn .T _
  askNotice {a} law := ⟨by rw [a.askNotice_notice.others]; exact law.1, (a.askNotice_notice.line law.2).1⟩
  linkUp {a p} law _ := by
    refine State.ServedBut.arbiter (law.setPort ?_)
    exact fun down => absurd down (by simp)

/-! ## Where frames leave a port -/

theorem foldl_traffic {α : Type} {op : State → α → State}
    (h : ∀ s a p, ((op s a).port p).traffic = (s.port p).traffic) (as : List α) (s : State) (p : PortId) :
    ((as.foldl op s).port p).traffic = (s.port p).traffic := by
  induction as generalizing s with
  | nil => rfl
  | cons a as ih => exact (ih _).trans (h s a p)

theorem State.releaseAbandoned_traffic (s : State) (p : PortId) (k : TxKind) (q : PortId) :
    ((s.releaseAbandoned p k).port q).traffic = (s.port q).traffic := by
  unfold State.releaseAbandoned
  split
  · rw [State.bump_port]
  · cases q <;> rfl
  · exact s.releaseEntry_traffic p _ q

theorem State.releaseSent_traffic (s : State) (p : PortId) (k : TxKind) (q : PortId) :
    ((s.releaseSent p k).port q).traffic = (s.port q).traffic := by
  unfold State.releaseSent
  split
  · rw [State.bump_port]
  · rw [State.bump_port]; cases q <;> rfl
  · exact s.releaseEntry_traffic p _ q

/-- R6: the port that goes DOWN is empty, and the other keeps its traffic. -/
theorem State.linkLost_traffic (s : State) (p q : PortId) :
    ((s.linkLost p).port q).traffic =
      ((s.setPort p { s.port p with link := .down, sending := none, ownQueue := [], bridge := [] }).port q).traffic := by
  unfold State.linkLost
  dsimp only
  rw [foldl_traffic fun st _ q => by rw [State.bump_port], foldl_traffic fun st e q => st.releaseEntry_traffic p e q]
  split
  · rfl
  · exact State.releaseAbandoned_traffic _ p _ q

theorem State.PortLaw.emptied (law : s.PortLaw) (p : PortId) :
    (s.setPort p { s.port p with link := .down, sending := none, ownQueue := [], bridge := [] }).PortLaw := by
  refine (State.portLaw_iff _).mpr fun q => ?_
  rw [State.setPort_get]
  split
  · exact ⟨fun _ => ⟨rfl, rfl⟩, fun _ => rfl⟩
  · exact s.portLaw_iff.mp law q

theorem State.cold_portLaw {s : State} {linkT linkL : Link} (portT : s.portT = portAfterStart linkT)
    (portL : s.portL = portAfterStart linkL) : s.PortLaw := by
  rw [State.PortLaw, portT, portL]
  exact ⟨⟨fun _ => ⟨rfl, rfl⟩, fun _ => rfl⟩, ⟨fun _ => ⟨rfl, rfl⟩, fun _ => rfl⟩⟩

theorem portLaw_ends : ResponseEnds State.PortLaw where
  linkLost {a p} law _ := (law.emptied p).of_ports (a.linkLost_traffic p)
  sent {a p w} law sending := by
    have up : (a.port p).link ≠ .down := fun down => by
      cases sending.symm.trans ((a.portLaw_iff.mp law p).2 down)
    refine State.ServedBut.arbiter ⟨fun down => ?_, fun q other => ?_⟩
    · have link := congrArg (·.1) (State.releaseSent_traffic (a.setPort p { a.port p with sending := none }) p w.kind p)
      rw [State.setPort_get, if_pos rfl] at link
      exact absurd (link.symm.trans down) up
    · refine (a.portLaw_iff.mp law q).congr ?_
      rw [State.releaseSent_traffic, State.setPort_get, if_neg (Ne.symm other)]
  sendResponse {a c} tag law _ := State.PortLaw.offerOwn (law.of_ports fun q => by cases q <;> rfl) c.port _
  loseWork _ := State.cold_portLaw rfl rfl

theorem State.eraseMessage_ports (s : State) (p : PortId) : s.eraseMessage.port p = s.port p := by
  unfold State.eraseMessage
  split
  · unfold State.rejectMessage
    rw [State.bump_port]
    cases p <;> rfl
  · split <;> cases p <;> rfl
  · exact State.port_of_sides (s.offerMgmt_sides _) p
  · rfl

theorem PortState.Shut.afterErase {x : PortState} (h : x.Shut) : x.afterErase.Shut := fun down => by
  obtain ⟨queue, bridge, sending⟩ := h down
  simp [PortState.afterErase, queue, bridge, sending]

theorem portLaw_starts : Starts State.PortLaw where
  warmStart _ := State.cold_portLaw rfl rfl
  coldStart _ := State.cold_portLaw rfl rfl
  eraseAll {a} law := by
    have shut : ∀ p, ((a.erasing.eraseMessage.latch .erased).port p).Shut := fun p => by
      have port : (a.erasing.eraseMessage.latch .erased).port p = (a.port p).afterErase := by
        rw [State.port_of_sides (State.latch_sides _ _) p, State.eraseMessage_ports]
        cases p <;> rfl
      rw [port]
      exact (a.portLaw_iff.mp law p).shut.afterErase
    rw [State.eraseAll_eq]
    refine State.ServedBut.arbiter ⟨?_, fun q other => ?_⟩
    · rw [State.arbiter_other _ (by decide)]
      exact shut .L
    · cases q
      · exact State.arbiter_served (shut .T)
      · exact absurd rfl other

theorem portLaw_keeps : Keeps State.PortLaw where
  ordinary := portLaw_sideSteps.ordinary
  items := portLaw_sideSteps.items
  banks := portLaw_sideSteps.banks
  ends := portLaw_ends
  starts := portLaw_starts

end Sys2Proof.Machine
end

section
/-! R6, R7, R20: the ports. -/

open Sys2Proof Sys2Proof.Machine

/-- Settles O13: an offer queues on an UP port alone, and every operation that fills a source or idles a transmitter
ends with the arbiter. -/
theorem portsStayServed : Obligations.PortsStayServed := fun _ _ law e => portLaw_keeps.step law e
end

section
/-! SUPPORT. Own-output entries and their buffers (Table 1-9): the law with entries in hand, which are in no queue but whose
buffers are still theirs, and what each operation on a port does to it. -/

namespace Sys2Proof.Machine

/-! ## The law with entries in hand -/

/-- The entry of the frame that a port is sending. -/
def PortState.sentEntries (x : PortState) : List OwnEntry :=
  match x.sending with
  | some { kind := .own e, .. } => [e]
  | some { kind := .bridged, .. } | none => []

/-- The notice that a port is sending. -/
def PortState.noticeSent (x : PortState) : Option Bytes :=
  match x.sending with
  | some { kind := .own .notice, frame := f, .. } => some f
  | some _ | none => none

/-- How often port `q` holds entry `e`, with the entries `hand` of port `p`. -/
def State.held (s : State) (p : PortId) (hand : List OwnEntry) (q : PortId) (e : OwnEntry) : Nat :=
  (s.port q).ownQueue.count e + (s.port q).sentEntries.count e + if q = p then hand.count e else 0

/-- Table 1-9 with the entries `hand` of port `p`, which are in no queue. -/
structure State.Buffers (s : State) (p : PortId) (hand : List OwnEntry) : Prop where
  enters : ∀ q e, 0 < s.held p hand q e → e.enters q = true
  response : s.held p hand .T .response + s.held p hand .L .response = if s.mgu = .answering then 1 else 0
  arp : ∀ q (b : Fin 2), s.held p hand q (.arp b) ≤ 1 ∧
    (0 < s.held p hand q (.arp b) → ((s.port q).arp[b]).isSome = true)
  standIn : ∀ k : Fin 16, s.held p hand .T (.standIn k) ≤ 1 ∧
    (0 < s.held p hand .T (.standIn k) → (s.standIns[k]).isSome = true)
  notice : s.portL.ownQueue.count .notice + (if p = .L then hand.count .notice else 0) =
    if s.noticeWaiting.isSome then 1 else 0
  sending : s.noticeSending = s.portL.noticeSent

theorem State.held_nil (s : State) (p q : PortId) (e : OwnEntry) : s.held p [] q e = (s.port q).entries.count e := by
  have entries : (s.port q).entries = (s.port q).ownQueue ++ (s.port q).sentEntries := rfl
  rw [entries, List.count_append]
  simp [State.held]

theorem State.bufferLaw_iff (s : State) (p : PortId) : s.BufferLaw ↔ s.Buffers p [] := by
  have holds : ∀ q e, 0 < s.held p [] q e ↔ e ∈ (s.port q).entries := fun q e => by
    rw [State.held_nil, List.count_pos_iff]
  have both : (s.portT.entries ++ s.portL.entries).count .response =
      s.held p [] .T .response + s.held p [] .L .response := by
    rw [State.held_nil, State.held_nil, List.count_append]
    rfl
  constructor
  · rintro ⟨enters, response, arp, standIn, notice, sending⟩
    refine ⟨fun q e held => enters q e ((holds q e).mp held), both ▸ response, fun q b => ?_, fun k => ?_, ?_, sending⟩
    · rw [holds, State.held_nil]; exact arp q b
    · rw [holds, State.held_nil]; exact standIn k
    · simpa using notice
  · intro h
    refine ⟨fun q e held => h.enters q e ((holds q e).mpr held), both ▸ h.response, fun q b => ?_, fun k => ?_, ?_,
      h.sending⟩
    · have arp := h.arp q b; rw [holds, State.held_nil] at arp; exact arp
    · have standIn := h.standIn k; rw [holds, State.held_nil] at standIn; exact standIn
    · simpa using h.notice

variable {s : State} {p : PortId} {hand : List OwnEntry}

/-- The law where no entry is held more often than before, and the response as often. -/
theorem State.Buffers.fewer {a b : State} {p' : PortId} {hand' : List OwnEntry} (h : a.Buffers p hand)
    (held : ∀ q e, b.held p' hand' q e ≤ a.held p hand q e)
    (response : ∀ q, b.held p' hand' q .response = a.held p hand q .response) (mgu : b.mgu = a.mgu)
    (arp : ∀ q, (b.port q).arp = (a.port q).arp) (standIns : b.standIns = a.standIns)
    (notice : b.portL.ownQueue.count .notice + (if p' = .L then hand'.count .notice else 0) =
      if b.noticeWaiting.isSome then 1 else 0)
    (sending : b.noticeSending = b.portL.noticeSent) : b.Buffers p' hand' := by
  refine ⟨fun q e some => h.enters q e (Nat.lt_of_lt_of_le some (held q e)), ?_, fun q c => ?_, fun k => ?_, notice,
    sending⟩
  · rw [response, response, mgu]
    exact h.response
  · rw [arp]
    exact ⟨(held q _).trans (h.arp q c).1, fun some => (h.arp q c).2 (Nat.lt_of_lt_of_le some (held q _))⟩
  · rw [standIns]
    exact ⟨(held _ _).trans (h.standIn k).1, fun some => (h.standIn k).2 (Nat.lt_of_lt_of_le some (held _ _))⟩

/-- The law reads how often each entry is held, which buffers are occupied, and what the transmitter of port L sends. -/
theorem State.Buffers.congr {a b : State} {p' : PortId} {hand' : List OwnEntry} (h : a.Buffers p hand)
    (held : ∀ q e, b.held p' hand' q e = a.held p hand q e) (mgu : b.mgu = a.mgu)
    (arp : ∀ q, (b.port q).arp = (a.port q).arp) (standIns : b.standIns = a.standIns)
    (notice : b.portL.ownQueue.count .notice + (if p' = .L then hand'.count .notice else 0) =
      if b.noticeWaiting.isSome then 1 else 0)
    (sending : b.noticeSending = b.portL.noticeSent) : b.Buffers p' hand' :=
  h.fewer (fun q e => (held q e).le) (fun q => held q _) mgu arp standIns notice sending

/-- What a port has of own output: the transmission and the queue. -/
def PortState.outgoing (x : PortState) : Option Sending × List OwnEntry := (x.sending, x.ownQueue)

theorem PortState.outgoing_of_traffic {x y : PortState} (h : y.traffic = x.traffic) : y.outgoing = x.outgoing := by
  simp only [PortState.traffic, Prod.mk.injEq] at h
  simp [PortState.outgoing, h]

theorem PortState.noticeSent_congr {x y : PortState} (h : y.sending = x.sending) : y.noticeSent = x.noticeSent := by
  unfold PortState.noticeSent
  rw [h]

theorem State.held_of_ports {a b : State} (same : ∀ q, (b.port q).outgoing = (a.port q).outgoing) (q : PortId)
    (e : OwnEntry) : b.held p hand q e = a.held p hand q e := by
  obtain ⟨sending, queue⟩ := Prod.mk.inj (same q)
  simp only [State.held, PortState.sentEntries, sending, queue]

/-- A change of neither the outgoing frames nor the buffers keeps the law. -/
theorem State.Buffers.of_outgoing {a b : State} (h : a.Buffers p hand)
    (outgoing : ∀ q, (b.port q).outgoing = (a.port q).outgoing) (mgu : b.mgu = a.mgu)
    (arp : ∀ q, (b.port q).arp = (a.port q).arp) (standIns : b.standIns = a.standIns)
    (waiting : b.noticeWaiting.isSome = a.noticeWaiting.isSome) (sent : b.noticeSending = a.noticeSending) :
    b.Buffers p hand := by
  obtain ⟨sending, queue⟩ := Prod.mk.inj (outgoing .L)
  refine h.congr (State.held_of_ports outgoing) mgu arp standIns ?_ ?_
  · have same : b.portL.ownQueue = a.portL.ownQueue := queue
    rw [waiting, same]
    exact h.notice
  · rw [sent, h.sending]
    exact (PortState.noticeSent_congr sending).symm

theorem State.Buffers.of_sides {a b : State} (same : b.sides = a.sides) (h : a.Buffers p hand) : b.Buffers p hand := by
  obtain ⟨_, _, standIns, waiting, sent, mgu, _⟩ := State.sides_eq_iff.mp same
  have port := State.port_of_sides same
  exact h.of_outgoing (fun q => by rw [port]) mgu (fun q => by rw [port]) standIns (by rw [waiting]) sent

/-! ## The arbiter (R20, R195) -/

theorem PortState.sentEntries_none {x : PortState} (h : x.sending = none) : x.sentEntries = [] := by
  simp [PortState.sentEntries, h]

theorem PortState.noticeSent_none {x : PortState} (h : x.sending = none) : x.noticeSent = none := by
  simp [PortState.noticeSent, h]

/-- An entry moved from the head of the queue to the transmitter is held as often as before. -/
theorem State.held_take {x y : PortState} {e : OwnEntry} {rest : List OwnEntry} {f w : Bytes}
    (queue : x.ownQueue = e :: rest) (idle : x.sending = none)
    (sends : y.sending = some { kind := .own e, frame := f, wire := w }) (left : y.ownQueue = rest) (d : OwnEntry) :
    y.ownQueue.count d + y.sentEntries.count d = x.ownQueue.count d + x.sentEntries.count d := by
  rw [PortState.sentEntries_none idle, queue, left]
  simp only [PortState.sentEntries, sends, List.count_nil, List.count_cons]
  omega

theorem State.Buffers.takeBridged (h : s.Buffers p hand) {q : PortId} (idle : (s.port q).sending = none) (f : Bytes)
    (rest : List Bytes) : (s.takeBridged q f rest).Buffers p hand := by
  have port : ∀ r, (s.takeBridged q f rest).port r =
      if q = r then
        { s.port q with
          sending := some { kind := .bridged, frame := f, wire := wireImage f }, lastServed := .bridge, bridge := rest }
      else s.port r := fun r => s.setPort_get q r _
  refine h.congr (fun r e => ?_) (by simp [State.takeBridged]) (fun r => ?_) (by simp [State.takeBridged]) ?_ ?_
  · simp only [State.held, port]
    split
    next same => subst same; rw [PortState.sentEntries_none idle]; rfl
    · rfl
  · rw [port]
    split
    next same => subst same; rfl
    · rfl
  · have queue : (s.takeBridged q f rest).portL.ownQueue = s.portL.ownQueue := by cases q <;> rfl
    have waiting : (s.takeBridged q f rest).noticeWaiting = s.noticeWaiting := by cases q <;> rfl
    rw [queue, waiting]
    exact h.notice
  · have sent : (s.takeBridged q f rest).noticeSending = s.noticeSending := by cases q <;> rfl
    rw [sent, h.sending]
    cases q
    · rfl
    · exact PortState.noticeSent_none idle

theorem State.takeOwn_port (q r : PortId) (e : OwnEntry) (rest : List OwnEntry) :
    (s.takeOwn q e rest).port r =
      if q = r then
        { s.port q with
          sending := some { kind := .own e, frame := s.heldFrame q e, wire := wireImage (s.heldFrame q e) }
          lastServed := .own, ownQueue := rest }
      else s.port r := by
  cases e <;> cases q <;> cases r <;> rfl

theorem State.takeOwn_of_ne {e : OwnEntry} (other : e ≠ .notice) (q : PortId) (rest : List OwnEntry) :
    s.takeOwn q e rest = s.setPort q
      { s.port q with
        sending := some { kind := .own e, frame := s.heldFrame q e, wire := wireImage (s.heldFrame q e) }
        lastServed := .own, ownQueue := rest } := by
  cases e with
  | notice => exact absurd rfl other
  | wrapped | forwarded | standIn | response | arp => rfl

theorem PortState.noticeSent_own {x : PortState} {e : OwnEntry} {f w : Bytes} (other : e ≠ .notice)
    (sends : x.sending = some { kind := .own e, frame := f, wire := w }) : x.noticeSent = none := by
  cases e with
  | notice => exact absurd rfl other
  | wrapped | forwarded | standIn | response | arp => simp [PortState.noticeSent, sends]

theorem State.Buffers.takeOwn (h : s.Buffers p hand) {q : PortId} {e : OwnEntry} {rest : List OwnEntry}
    (idle : (s.port q).sending = none) (queue : (s.port q).ownQueue = e :: rest) :
    (s.takeOwn q e rest).Buffers p hand := by
  have takes : 0 < s.held p hand q e := by
    simp only [State.held, queue, List.count_cons_self]
    omega
  have held : ∀ r d, (s.takeOwn q e rest).held p hand r d = s.held p hand r d := fun r d => by
    simp only [State.held, State.takeOwn_port]
    split
    next same => subst same; rw [State.held_take queue idle rfl rfl d]
    · rfl
  have arps : ∀ r, ((s.takeOwn q e rest).port r).arp = (s.port r).arp := fun r => by
    rw [State.takeOwn_port]
    split
    next same => subst same; rfl
    · rfl
  have mgu : (s.takeOwn q e rest).mgu = s.mgu := by cases e <;> cases q <;> rfl
  have standIns : (s.takeOwn q e rest).standIns = s.standIns := by cases e <;> cases q <;> rfl
  by_cases notice : e = .notice
  · subst notice
    cases q with
    | T => exact absurd (h.enters .T .notice takes) (by decide)
    | L =>
      refine h.congr held mgu arps standIns ?_ rfl
      have one := h.notice
      have most : (if s.noticeWaiting.isSome then 1 else 0) ≤ 1 := by split <;> omega
      rw [show s.portL.ownQueue = _ from queue, List.count_cons_self] at one
      show rest.count .notice + _ = 0
      omega
  · refine h.congr held mgu arps standIns ?_ ?_
    · have waiting : (s.takeOwn q e rest).noticeWaiting = s.noticeWaiting := by
        rw [State.takeOwn_of_ne notice, State.setPort_noticeWaiting]
      have left : (s.takeOwn q e rest).portL.ownQueue.count .notice = s.portL.ownQueue.count .notice := by
        change ((s.takeOwn q e rest).port .L).ownQueue.count .notice = _
        rw [State.takeOwn_port]
        split
        next same =>
          subst same
          rw [show s.portL.ownQueue = _ from queue, List.count_cons_of_ne notice]
        · rfl
      rw [waiting, left]
      exact h.notice
    · have sent : (s.takeOwn q e rest).noticeSending = s.noticeSending := by
        rw [State.takeOwn_of_ne notice, State.setPort_noticeSending]
      rw [sent, h.sending]
      change _ = ((s.takeOwn q e rest).port .L).noticeSent
      rw [State.takeOwn_port]
      split
      next same =>
        subst same
        exact (PortState.noticeSent_none idle).trans (PortState.noticeSent_own notice (by rfl)).symm
      · rfl

theorem State.Buffers.arbiter (h : s.Buffers p hand) (q : PortId) : (s.arbiter q).Buffers p hand := by
  rcases s.arbiter_cases q with ⟨same, _⟩ | ⟨f, rest, idle, _, _, _, took⟩ | ⟨e, rest, idle, _, queue, _, took⟩
  · rwa [same]
  · rw [took]; exact h.takeBridged idle f rest
  · rw [took]; exact h.takeOwn idle queue

end Sys2Proof.Machine
end

section
/-! SUPPORT. Entries offered, released and sent (R6, R16, R21, R110, R174, R195), and the law of the buffers. -/

namespace Sys2Proof.Machine

variable {s : State} {p : PortId} {hand : List OwnEntry}

/-! ## An entry in hand is queued or released -/

theorem State.held_cons (s : State) (p : PortId) (e : OwnEntry) (hand : List OwnEntry) (q : PortId) (d : OwnEntry) :
    s.held p (e :: hand) q d = s.held p hand q d + if q = p ∧ e = d then 1 else 0 := by
  unfold State.held
  by_cases port : q = p <;> by_cases same : e = d <;> simp [port, same, Nat.add_assoc]

theorem State.Buffers.queue {e : OwnEntry} (h : s.Buffers p (e :: hand)) :
    (s.setPort p { s.port p with ownQueue := (s.port p).ownQueue ++ [e] }).Buffers p hand := by
  have held : ∀ q d, (s.setPort p { s.port p with ownQueue := (s.port p).ownQueue ++ [e] }).held p hand q d =
      s.held p (e :: hand) q d := fun q d => by
    rw [State.held_cons]
    unfold State.held
    rw [State.setPort_get]
    by_cases port : p = q
    · subst port
      simp only [if_true, List.count_append, List.count_singleton, PortState.sentEntries, true_and, beq_iff_eq]
      omega
    · simp only [if_neg port, Ne.symm port, false_and, if_false]
  refine h.congr held (by simp) (fun q => ?_) (by simp) ?_ ?_
  · rw [State.setPort_get]
    split
    next same => subst same; rfl
    · rfl
  · rw [State.setPort_noticeWaiting, ← h.notice]
    cases p
    · rfl
    · show (s.portL.ownQueue ++ [e]).count .notice + hand.count .notice = s.portL.ownQueue.count .notice + (e :: hand).count .notice
      simp only [List.count_append, List.count_cons, List.count_nil]
      omega
  · rw [State.setPort_noticeSending, h.sending]
    cases p <;> rfl

/-- The law with one entry fewer in hand, where its buffer is released. -/
theorem State.Buffers.drop {e : OwnEntry} {t : State} (h : s.Buffers p (e :: hand))
    (traffic : ∀ q, (t.port q).traffic = (s.port q).traffic)
    (mgu : (if t.mgu = .answering then 1 else 0) = (if s.mgu = .answering then 1 else 0) - if e = .response then 1 else 0)
    (arp : ∀ q (b : Fin 2), ((s.port q).arp[b]).isSome = true → (e = .arp b ∧ q = p) ∨ ((t.port q).arp[b]).isSome = true)
    (standIn : ∀ k : Fin 16, (s.standIns[k]).isSome = true → (e = .standIn k ∧ p = .T) ∨ (t.standIns[k]).isSome = true)
    (notice : (if t.noticeWaiting.isSome then 1 else 0) =
      (if s.noticeWaiting.isSome then 1 else 0) - if e = .notice ∧ p = .L then 1 else 0)
    (sent : t.noticeSending = s.noticeSending) : t.Buffers p hand := by
  have held : ∀ q d, t.held p hand q d + (if q = p ∧ e = d then 1 else 0) = s.held p (e :: hand) q d := fun q d => by
    rw [State.held_cons, State.held_of_ports fun r => PortState.outgoing_of_traffic (traffic r)]
  obtain ⟨sending, queue⟩ := Prod.mk.inj (PortState.outgoing_of_traffic (traffic .L))
  refine ⟨fun q d some => h.enters q d ?_, ?_, fun q b => ?_, fun k => ?_, ?_, ?_⟩
  · rw [← held]; omega
  · have before := h.response
    rw [← held, ← held] at before
    rw [mgu]
    by_cases response : e = .response <;> cases p <;> simp [response] at before ⊢ <;> omega
  · obtain ⟨once, full⟩ := h.arp q b
    rw [← held] at once full
    refine ⟨by omega, fun some => ?_⟩
    rcases arp q b (full (by omega)) with ⟨named, port⟩ | full
    · rw [if_pos ⟨port, named⟩] at once
      omega
    · exact full
  · obtain ⟨once, full⟩ := h.standIn k
    rw [← held] at once full
    refine ⟨by omega, fun some => ?_⟩
    rcases standIn k (full (by omega)) with ⟨named, port⟩ | full
    · rw [if_pos ⟨port.symm, named⟩] at once
      omega
    · exact full
  · have before := h.notice
    have same : t.portL.ownQueue = s.portL.ownQueue := queue
    rw [same, notice, ← before]
    cases p
    · simp
    · simp only [if_true, List.count_cons, beq_iff_eq, and_true]
      omega
  · rw [sent, h.sending]
    exact (PortState.noticeSent_congr sending).symm

theorem State.Buffers.releaseEntry {e : OwnEntry} (h : s.Buffers p (e :: hand)) : (s.releaseEntry p e).Buffers p hand := by
  have holds : 0 < s.held p (e :: hand) p e := by
    rw [State.held_cons, if_pos ⟨rfl, rfl⟩]
    omega
  have enters := h.enters p e holds
  have traffic := s.releaseEntry_traffic p e
  cases e with
  | wrapped k | forwarded k =>
    exact h.drop traffic rfl (fun q b full => .inr (by cases q <;> exact full)) (fun _ full => .inr full) rfl rfl
  | standIn k =>
    cases p with
    | L => cases enters
    | T =>
      refine h.drop traffic rfl (fun q b full => .inr (by cases q <;> exact full)) (fun j full => ?_) rfl rfl
      by_cases same : k = j
      · exact .inl ⟨by rw [same], rfl⟩
      · refine .inr ?_
        show ((s.standIns.set k none)[j]).isSome = true
        rwa [getElem_set_fin, if_neg same]
  | response =>
    refine h.drop traffic ?_ (fun q b full => .inr (by cases q <;> exact full)) (fun _ full => .inr full) rfl rfl
    show 0 = _ - 1
    split <;> rfl
  | notice =>
    cases p with
    | T => cases enters
    | L =>
      refine h.drop traffic rfl (fun q b full => .inr (by cases q <;> exact full)) (fun _ full => .inr full) ?_ rfl
      show 0 = _ - 1
      split <;> rfl
  | arp b =>
    refine h.drop traffic ?_ (fun q c full => ?_) (fun k full => .inr ?_) ?_ ?_
    · show (if (s.setPort p _).mgu = .answering then 1 else 0) = _
      rw [State.setPort_mgu]
      rfl
    · show _ ∨ (((s.setPort p { s.port p with arp := (s.port p).arp.set b none }).port q).arp[c]).isSome = true
      rw [State.setPort_get]
      split
      next port =>
        subst port
        rw [getElem_set_fin]
        split
        next same => exact .inl ⟨by rw [same], rfl⟩
        · exact .inr full
      · exact .inr full
    · have kept : (s.releaseEntry p (.arp b)).standIns = s.standIns := State.setPort_standIns ..
      rwa [kept]
    · show (if (s.setPort p _).noticeWaiting.isSome then 1 else 0) = _
      rw [State.setPort_noticeWaiting]
      rfl
    · exact State.setPort_noticeSending ..

/-- An entry in hand that is offered is queued, or its buffer is released (R7, R160). -/
theorem State.Buffers.offerOwn {e : OwnEntry} (h : s.Buffers p (e :: hand)) : (s.offerOwn p e).1.Buffers p hand := by
  rcases s.offerOwn_cases p e with ⟨_, r⟩ | ⟨_, _, _, r⟩ | ⟨_, _, r⟩ <;> rw [r]
  · exact h.releaseEntry
  · exact (h.of_sides s.guardBlocked_sides).releaseEntry
  · exact h.queue.arbiter p

/-! ## An entry is built in a free buffer -/

/-- The law with one entry more in hand, where its buffer is filled and it was not held. -/
theorem State.Buffers.take {e : OwnEntry} {t : State} (h : s.Buffers p []) (enters : e.enters p = true)
    (traffic : ∀ q, (t.port q).traffic = (s.port q).traffic)
    (mgu : (if t.mgu = .answering then 1 else 0) = (if s.mgu = .answering then 1 else 0) + if e = .response then 1 else 0)
    (arp : ∀ q (b : Fin 2), ((s.port q).arp[b]).isSome = true ∨ (e = .arp b ∧ q = p) → ((t.port q).arp[b]).isSome = true)
    (standIn : ∀ k : Fin 16, (s.standIns[k]).isSome = true ∨ (e = .standIn k ∧ p = .T) → (t.standIns[k]).isSome = true)
    (new : ∀ b : Fin 2, e = .arp b → s.held p [] p (.arp b) = 0)
    (fresh : ∀ k : Fin 16, e = .standIn k → s.held p [] .T (.standIn k) = 0)
    (notice : (if t.noticeWaiting.isSome then 1 else 0) =
      (if s.noticeWaiting.isSome then 1 else 0) + if e = .notice ∧ p = .L then 1 else 0)
    (sent : t.noticeSending = s.noticeSending) : t.Buffers p [e] := by
  have held : ∀ q d, t.held p [e] q d = s.held p [] q d + (if q = p ∧ e = d then 1 else 0) := fun q d => by
    rw [State.held_cons, State.held_of_ports fun r => PortState.outgoing_of_traffic (traffic r)]
  obtain ⟨sending, queue⟩ := Prod.mk.inj (PortState.outgoing_of_traffic (traffic .L))
  refine ⟨fun q d some => ?_, ?_, fun q b => ?_, fun k => ?_, ?_, ?_⟩
  · rw [held] at some
    split at some
    next named => obtain ⟨rfl, rfl⟩ := named; exact enters
    · exact h.enters q d some
  · have before := h.response
    rw [held, held, mgu, ← before]
    by_cases response : e = .response <;> cases p <;> simp [response] <;> omega
  · obtain ⟨once, full⟩ := h.arp q b
    rw [held]
    split
    next named =>
      obtain ⟨rfl, rfl⟩ := named
      rw [new b rfl]
      exact ⟨by omega, fun _ => arp q b (.inr ⟨rfl, rfl⟩)⟩
    · exact ⟨once, fun some => arp q b (.inl (full some))⟩
  · obtain ⟨once, full⟩ := h.standIn k
    rw [held]
    split
    next named =>
      obtain ⟨rfl, rfl⟩ := named
      rw [fresh k rfl]
      exact ⟨by omega, fun _ => standIn k (.inr ⟨rfl, rfl⟩)⟩
    · exact ⟨once, fun some => standIn k (.inl (full some))⟩
  · have before := h.notice
    have same : t.portL.ownQueue = s.portL.ownQueue := queue
    rw [same, notice, ← before]
    cases p <;> simp [List.count_cons]
  · rw [sent, h.sending]
    exact (PortState.noticeSent_congr sending).symm

/-- An entry whose frame is in a frame slot has no buffer of this law. -/
theorem State.Buffers.takeSlot (h : s.Buffers p []) {e : OwnEntry} (enters : e.enters p = true)
    (slot : e.slot.isSome = true) : s.Buffers p [e] := by
  refine h.take enters (fun _ => rfl) ?_ (fun q b full => ?_) (fun k full => ?_) (fun b named => ?_)
    (fun k named => ?_) ?_ rfl
  · have other : e ≠ .response := by rintro rfl; cases slot
    simp [other]
  · rcases full with full | ⟨rfl, _⟩
    · exact full
    · cases slot
  · rcases full with full | ⟨rfl, _⟩
    · exact full
    · cases slot
  · subst named; cases slot
  · subst named; cases slot
  · have other : e ≠ .notice := by rintro rfl; cases slot
    simp [other]

theorem State.Buffers.takeStandIn (h : s.Buffers .T []) {k : Fin 16} (free : s.standIns[k] = none) (f : Bytes) :
    ({ s with standIns := s.standIns.set k (some f) } : State).Buffers .T [.standIn k] := by
  refine h.take rfl (fun q => by cases q <;> rfl) (by simp) (fun q b full => ?_) (fun j full => ?_) nofun (fun j named => ?_)
    (by simp) rfl
  · rcases full with full | ⟨named, _⟩
    · cases q <;> exact full
    · cases named
  · rw [getElem_set_fin]
    split
    · rfl
    next other =>
      rcases full with full | ⟨named, _⟩
      · exact full
      · cases named; exact absurd rfl other
  · cases named
    by_contra holds
    have full := (h.standIn k).2 (Nat.pos_of_ne_zero holds)
    rw [free] at full
    cases full

theorem State.Buffers.takeArp (h : s.Buffers p []) {b : Fin 2} (free : (s.port p).arp[b] = none) (f : Bytes) :
    (s.setPort p { s.port p with arp := (s.port p).arp.set b (some f) }).Buffers p [.arp b] := by
  refine h.take rfl (fun q => s.setPort_traffic p q rfl) (by simp) (fun q c full => ?_) (fun k full => ?_)
    (fun c named => ?_) nofun (by simp) (by simp)
  · rw [State.setPort_get]
    split
    next port =>
      subst port
      rw [getElem_set_fin]
      split
      · rfl
      next other =>
        rcases full with full | ⟨named, _⟩
        · exact full
        · cases named; exact absurd rfl other
    next other =>
      rcases full with full | ⟨_, port⟩
      · exact full
      · exact absurd port.symm other
  · rw [State.setPort_standIns]
    rcases full with full | ⟨named, _⟩
    · exact full
    · cases named
  · cases named
    by_contra holds
    have full := (h.arp p b).2 (Nat.pos_of_ne_zero holds)
    rw [free] at full
    cases full

/-- The response enters ANSWERING from another state of MGU (R174). -/
theorem State.Buffers.takeResponse (h : s.Buffers p []) (working : s.mgu ≠ .answering) {t : State}
    (t_sides : t.sides = ({ s with mgu := .answering, responseFrame := t.responseFrame } : State).sides) :
    t.Buffers p [.response] := by
  obtain ⟨_, _, standIns, waiting, sent, mgu, _⟩ := State.sides_eq_iff.mp t_sides
  have port : ∀ q, t.port q = s.port q := fun q => (State.port_of_sides t_sides q).trans (by cases q <;> rfl)
  refine h.take (by cases p <;> rfl) (fun q => by rw [port]) (by simp [mgu, working]) (fun q b full => ?_)
    (fun k full => ?_) nofun nofun (by simp [waiting]) sent
  · rw [port]
    exact full.resolve_right (by rintro ⟨named, _⟩; cases named)
  · rw [standIns]
    exact full.resolve_right (by rintro ⟨named, _⟩; cases named)

theorem State.Buffers.takeNotice (h : s.Buffers .L []) (free : s.noticeWaiting = none) (w : WaitingNotice)
    (n : BitVec 16) : ({ s with noticeWaiting := some w, ident := n } : State).Buffers .L [.notice] := by
  refine h.take rfl (fun q => by cases q <;> rfl) (by simp) (fun q b full => ?_) (fun k full => ?_) nofun nofun
    (by simp [free]) rfl
  · have full := full.resolve_right (by rintro ⟨named, _⟩; cases named)
    cases q <;> exact full
  · exact full.resolve_right (by rintro ⟨named, _⟩; cases named)

end Sys2Proof.Machine
end

section
/-! SUPPORT. The law of the buffers under every operation on a port (Table 1-9). -/

namespace Sys2Proof.Machine

variable {s : State} {p : PortId} {hand : List OwnEntry}

/-! ## Arrivals and notices -/

theorem State.Buffers.setPort (h : s.Buffers p hand) {q : PortId} {x : PortState}
    (outgoing : x.outgoing = (s.port q).outgoing) (arp : x.arp = (s.port q).arp) : (s.setPort q x).Buffers p hand := by
  refine h.of_outgoing (fun r => ?_) (by simp) (fun r => ?_) (by simp) (by simp) (by simp) <;>
    rw [State.setPort_get] <;> split
  next same => exact same ▸ outgoing
  · rfl
  next same => exact same ▸ arp
  · rfl

theorem State.Buffers.offerBridge (h : s.Buffers p hand) (q : PortId) (f : Bytes) :
    (s.offerBridge q f).Buffers p hand := by
  rcases s.offerBridge_cases q f with ⟨_, r⟩ | ⟨_, _, _, r⟩ | ⟨_, _, _, r⟩ | ⟨_, _, _, r⟩ <;> rw [r]
  · exact h.of_sides (s.bump_sides _)
  · exact h.of_sides s.guardBlocked_sides
  · exact h.of_sides (s.bump_sides _)
  · refine State.Buffers.arbiter (h.setPort ?_ ?_) q <;> rfl

/-- A waiting notice that is blocked leaves the queue with its buffer (R195). -/
theorem State.Buffers.dropNotice (h : s.Buffers p []) :
    ({ s with
      noticeWaiting := none
      portL := { s.portL with ownQueue := s.portL.ownQueue.filter (· ≠ .notice) } } : State).Buffers p [] := by
  have held : ∀ q d, ({ s with
      noticeWaiting := none
      portL := { s.portL with ownQueue := s.portL.ownQueue.filter (· ≠ .notice) } } : State).held p [] q d ≤
        s.held p [] q d := fun q d => by
    cases q
    · exact Nat.le_refl _
    · exact Nat.add_le_add_right (Nat.add_le_add_right ((List.filter_sublist).count_le d) _) _
  refine h.fewer held (fun q => ?_) rfl (fun q => by cases q <;> rfl) rfl ?_ h.sending
  · cases q
    · rfl
    · simp only [State.held, State.port]
      rw [List.count_filter (by decide)]
      rfl
  · simp only [List.count_nil, ite_self, Option.isSome_none, Bool.false_eq_true, if_false, Nat.add_zero]
    exact List.count_eq_zero.mpr (by simp)

theorem State.Buffers.askNotice (h : s.Buffers .L []) : s.askNotice.Buffers .L [] := by
  unfold State.askNotice
  split
  · exact h
  next d _ =>
    split
    next w waits =>
      unfold State.rewriteNotice
      dsimp only
      split
      · exact h.of_outgoing (fun q => by cases q <;> rfl) rfl (fun q => by cases q <;> rfl) rfl (by simp [waits]) rfl
      · exact (h.of_sides s.guardBlocked_sides).dropNotice
    next free => exact (h.takeNotice free _ _).offerOwn

theorem bufferLaw_sideSteps : SideSteps State.BufferLaw where
  same {a b} same law := b.bufferLaw_iff .T |>.mpr ((a.bufferLaw_iff .T |>.mp law).of_sides same)
  receive {a} p f law := by
    rw [State.bufferLaw_iff _ .T] at law ⊢
    exact law.setPort rfl rfl
  mgu {a m} law now next := by
    rw [State.bufferLaw_iff _ .T] at law ⊢
    refine ⟨fun q => ?_, ?_, fun q => ?_, law.standIn, law.notice, law.sending⟩
    · have enters := law.enters q
      cases q <;> exact enters
    · have none : (if a.mgu = .answering then 1 else 0) = 0 := by simp [now]
      have none' : (if m = .answering then 1 else 0) = 0 := by simp [next]
      exact (law.response.trans none).trans none'.symm
    · have arp := law.arp q
      cases q <;> exact arp
  arpArrive {a} p f law := by
    rw [State.bufferLaw_iff _ p] at law ⊢
    unfold State.arpArrive
    split
    · exact law
    next b free => exact (law.takeArp (firstFree_eq_some free) _).offerOwn
  offerBridge p f law := by
    rw [State.bufferLaw_iff _ .T] at law ⊢
    exact law.offerBridge p f
  offerStandIn f law free := by
    rw [State.bufferLaw_iff _ .T] at law ⊢
    exact (law.takeStandIn free f).offerOwn
  offerWrapped k law := by
    rw [State.bufferLaw_iff _ .L] at law ⊢
    exact (law.takeSlot rfl rfl).offerOwn
  offerForwarded k law := by
    rw [State.bufferLaw_iff _ .T] at law ⊢
    exact (law.takeSlot rfl rfl).offerOwn
  askNotice law := by
    rw [State.bufferLaw_iff _ .L] at law ⊢
    exact law.askNotice
  linkUp {a p} law _ := by
    rw [State.bufferLaw_iff _ .T] at law ⊢
    refine State.Buffers.arbiter (law.setPort ?_ ?_) p <;> rfl

/-! ## Transmissions that end (R6, R21) -/

/-- The buffer of a transmission that has ended, released. -/
def State.unsent (s : State) (p : PortId) : TxKind → State
  | .bridged => s
  | .own .notice => { s with noticeSending := none }
  | .own e => s.releaseEntry p e

theorem State.releaseAbandoned_sides (s : State) (p : PortId) (k : TxKind) :
    (s.releaseAbandoned p k).sides = (s.unsent p k).sides := by
  cases k with
  | bridged => exact s.bump_sides _
  | own e => cases e <;> rfl

theorem State.releaseSent_sides (s : State) (p : PortId) (k : TxKind) :
    (s.releaseSent p k).sides = (s.unsent p k).sides := by
  cases k with
  | bridged => exact s.bump_sides _
  | own e =>
    cases e with
    | notice => exact State.bump_sides _ _
    | wrapped | forwarded | standIn | response | arp => rfl

/-- The port whose transmitter becomes IDLE, some of its queue in hand. -/
theorem State.Buffers.idle (h : s.Buffers p []) {x : PortState} {rest : List OwnEntry} {sent : List OwnEntry}
    (arp : x.arp = (s.port p).arp) (quiet : x.sending = none)
    (queue : ∀ d, x.ownQueue.count d + rest.count d = (s.port p).ownQueue.count d)
    (was : (s.port p).sentEntries = sent) (own : OwnEntry.notice ∉ sent) : (s.setPort p x).Buffers p (sent ++ rest) := by
  have held : ∀ q d, (s.setPort p x).held p (sent ++ rest) q d = s.held p [] q d := fun q d => by
    unfold State.held
    rw [State.setPort_get]
    by_cases port : p = q
    · subst port
      simp only [if_true, PortState.sentEntries_none quiet, List.count_nil, List.count_append, was, ← queue d]
      omega
    · rw [if_neg port, if_neg (Ne.symm port), if_neg (Ne.symm port)]
  have zero : sent.count .notice = 0 := List.count_eq_zero.mpr own
  have unsent : (s.port p).noticeSent = none := by
    unfold PortState.sentEntries at was
    unfold PortState.noticeSent
    split
    next sends => rw [sends] at was; subst was; exact absurd (List.mem_singleton.mpr rfl) own
    · rfl
    · rfl
  refine h.congr held (by simp) (fun q => ?_) (by simp) ?_ ?_
  · rw [State.setPort_get]
    split
    next same => exact same ▸ arp
    · rfl
  · rw [State.setPort_noticeWaiting, ← h.notice]
    cases p
    · rfl
    · have left := queue .notice
      show x.ownQueue.count .notice + (sent ++ rest).count .notice = s.portL.ownQueue.count .notice + 0
      rw [List.count_append, zero, show s.portL.ownQueue.count .notice = _ from left.symm]
      omega
  · rw [State.setPort_noticeSending, h.sending]
    cases p
    · rfl
    · exact unsent.trans (PortState.noticeSent_none quiet).symm

/-- The port that ends the transmission of a notice, some of its queue in hand. -/
theorem State.Buffers.idleNotice (h : s.Buffers p []) {x : PortState} {rest : List OwnEntry}
    (arp : x.arp = (s.port p).arp) (quiet : x.sending = none)
    (queue : ∀ d, x.ownQueue.count d + rest.count d = (s.port p).ownQueue.count d)
    (was : (s.port p).sentEntries = [.notice]) : ({ s.setPort p x with noticeSending := none } : State).Buffers p rest := by
  have sends : 0 < s.held p [] p .notice := by
    simp [State.held, was]
  cases p with
  | T => exact absurd (h.enters .T .notice sends) (by decide)
  | L =>
    refine h.fewer (fun q d => ?_) (fun q => ?_) rfl (fun q => ?_) rfl ?_ (PortState.noticeSent_none quiet).symm
    · cases q
      · exact Nat.le_refl _
      · have left := queue d
        simp only [State.held, State.port, State.setPort, if_true, PortState.sentEntries_none quiet, List.count_nil] at left ⊢
        omega
    · cases q
      · rfl
      · have left := queue .response
        have other : (s.port .L).sentEntries.count .response = 0 := by rw [was]; rfl
        simp only [State.held, State.port, State.setPort, if_true, PortState.sentEntries_none quiet, List.count_nil] at left other ⊢
        omega
    · cases q
      · rfl
      · exact arp
    · have left := queue .notice
      have before := h.notice
      simp only [if_true, List.count_nil, Nat.add_zero] at before
      show x.ownQueue.count .notice + rest.count .notice = _
      rw [left]
      exact before

/-- A transmission ends and its buffer is released, the rest of the queue in hand or still queued. -/
theorem State.Buffers.ends (h : s.Buffers p []) {x : PortState} {rest : List OwnEntry} {w : Sending}
    (sends : (s.port p).sending = some w) (arp : x.arp = (s.port p).arp) (quiet : x.sending = none)
    (queue : ∀ d, x.ownQueue.count d + rest.count d = (s.port p).ownQueue.count d) :
    ((s.setPort p x).unsent p w.kind).Buffers p rest := by
  have was : (s.port p).sentEntries = match w.kind with
      | .own e => [e]
      | .bridged => [] := by
    unfold PortState.sentEntries
    rw [sends]
    obtain ⟨kind, frame, wire⟩ := w
    cases kind <;> rfl
  cases kind : w.kind with
  | bridged =>
    rw [kind] at was
    exact h.idle arp quiet queue was (by simp)
  | own e =>
    rw [kind] at was
    by_cases notice : e = .notice
    · subst notice
      exact h.idleNotice arp quiet queue was
    · have released := (h.idle arp quiet queue was (by simp [Ne.symm notice])).releaseEntry
      cases e with
      | notice => exact absurd rfl notice
      | wrapped | forwarded | standIn | response | arp => exact released

theorem State.Buffers.releaseAll (h : s.Buffers p hand) :
    (hand.foldl (fun st e => st.releaseEntry p e) s).Buffers p [] := by
  induction hand generalizing s with
  | nil => exact h
  | cons e hand ih => exact ih h.releaseEntry

theorem foldl_sides {α : Type} {op : State → α → State} (h : ∀ s a, (op s a).sides = s.sides) (as : List α)
    (s : State) : (as.foldl op s).sides = s.sides := by
  induction as generalizing s with
  | nil => rfl
  | cons a as ih => exact (ih _).trans (h s a)

theorem State.Buffers.linkLost (h : s.Buffers p []) : (s.linkLost p).Buffers p [] := by
  unfold State.linkLost
  dsimp only
  refine State.Buffers.of_sides (foldl_sides (fun st _ => st.bump_sides _) _ _) (State.Buffers.releaseAll ?_)
  split
  next idle => exact h.idle (by rfl) (by rfl) (fun d => by simp) (PortState.sentEntries_none idle) (by simp)
  next w sends =>
    refine State.Buffers.of_sides (State.releaseAbandoned_sides _ _ _) ?_
    exact h.ends sends (by rfl) (by rfl) fun d => by simp

/-! ## Starts and the erase (R22, R23) -/

/-- Without outgoing frames, without a waiting or a sending notice and outside ANSWERING the law holds. -/
theorem State.cold_bufferLaw {s : State} {linkT linkL : Link} (portT : s.portT = portAfterStart linkT)
    (portL : s.portL = portAfterStart linkL) (mgu : s.mgu ≠ .answering) (waiting : s.noticeWaiting = none)
    (sending : s.noticeSending = none) : s.BufferLaw := by
  have held : ∀ q e, s.held .T [] q e = 0 := fun q e => by
    cases q <;>
      simp [State.held, State.port, portT, portL, portAfterStart, PortState.cold, PortState.sentEntries]
  rw [State.bufferLaw_iff _ .T]
  refine ⟨?_, ?_, ?_, ?_, ?_, ?_⟩
  · simp [held]
  · simp [held, mgu]
  · simp [held]
  · simp [held]
  · simp [portL, portAfterStart, PortState.cold, waiting]
  · rw [sending, portL]
    rfl

theorem bufferLaw_ends : ResponseEnds State.BufferLaw where
  linkLost {a p} law _ := by
    rw [State.bufferLaw_iff _ p] at law ⊢
    exact law.linkLost
  sent {a p w} law sends := by
    rw [State.bufferLaw_iff _ p] at law ⊢
    refine State.Buffers.arbiter (State.Buffers.of_sides (State.releaseSent_sides _ _ _) ?_) p
    exact law.ends sends (by rfl) (by rfl) fun d => by simp
  sendResponse {a c} tag law tagging := by
    rw [State.bufferLaw_iff _ c.port] at law ⊢
    refine State.Buffers.offerOwn (law.takeResponse (by rw [tagging]; decide) ?_)
    rfl
  loseWork _ := State.cold_bufferLaw rfl rfl nofun rfl rfl

theorem PortState.afterErase_sentEntries (x : PortState) :
    x.afterErase.sentEntries = x.sentEntries.filter fun e => !e.namesSlot := by
  unfold PortState.sentEntries PortState.afterErase
  cases sends : x.sending with
  | none => rfl
  | some w =>
    obtain ⟨kind, frame, wire⟩ := w
    cases kind with
    | bridged => rfl
    | own e => cases e <;> rfl

theorem PortState.afterErase_noticeSent (x : PortState) : x.afterErase.noticeSent = x.noticeSent := by
  unfold PortState.noticeSent PortState.afterErase
  cases sends : x.sending with
  | none => rfl
  | some w =>
    obtain ⟨kind, frame, wire⟩ := w
    cases kind with
    | bridged => rfl
    | own e => cases e <;> rfl

/-- An erase removes the entries that name a frame slot, and no other (R23). -/
theorem State.erasing_bufferLaw (law : s.BufferLaw) : s.erasing.BufferLaw := by
  rw [State.bufferLaw_iff _ .T] at law ⊢
  have port : ∀ q, s.erasing.port q = (s.port q).afterErase := fun q => by cases q <;> rfl
  have counts : ∀ q d, (s.erasing.port q).ownQueue.count d + (s.erasing.port q).sentEntries.count d =
      ((s.port q).ownQueue.filter fun e => !e.namesSlot).count d +
        ((s.port q).sentEntries.filter fun e => !e.namesSlot).count d := fun q d => by
    rw [port, PortState.afterErase_sentEntries]
    rfl
  refine law.fewer (fun q d => ?_) (fun q => ?_) rfl (fun q => by rw [port]; rfl) rfl ?_ ?_
  · unfold State.held
    rw [counts]
    exact Nat.add_le_add_right
      (Nat.add_le_add ((List.filter_sublist).count_le d) ((List.filter_sublist).count_le d)) _
  · unfold State.held
    rw [counts, List.count_filter (by rfl), List.count_filter (by rfl)]
  · show (s.portL.ownQueue.filter fun e => !e.namesSlot).count .notice + _ = _
    rw [List.count_filter (by rfl)]
    exact law.notice
  · exact law.sending.trans (PortState.afterErase_noticeSent s.portL).symm

theorem bufferLaw_keeps : Keeps State.BufferLaw where
  ordinary := bufferLaw_sideSteps.ordinary
  items := bufferLaw_sideSteps.items
  banks := bufferLaw_sideSteps.banks
  ends := bufferLaw_ends
  starts :=
    { warmStart := fun _ => State.cold_bufferLaw rfl rfl nofun rfl rfl
      coldStart := fun _ => State.cold_bufferLaw rfl rfl nofun rfl rfl
      eraseAll := fun law => bufferLaw_sideSteps.ordinary.eraseAll (State.erasing_bufferLaw law) fun p kept => by
        rw [State.bufferLaw_iff _ .T] at kept ⊢
        exact kept.arbiter p }

end Sys2Proof.Machine
end

section
/-! Table 1-9: own-output entries and their buffers. -/

open Sys2Proof Sys2Proof.Machine

/-- Settles O16: an entry is queued with its buffer filled, and leaves queue and transmitter as its buffer is released. -/
theorem queueEntriesKeepTheirBuffers : Obligations.QueueEntriesKeepTheirBuffers := fun _ _ law e =>
  bufferLaw_keeps.step law e
end

section
/-! SUPPORT. The identities of the jobs (R111): distinct, below the model's counter, and none of a job that waits in MGU
names a frame slot. -/

namespace Sys2Proof.Machine

variable {s : State}

/-- What `State.StoreLaw` says of the jobs. -/
structure State.JobsLaw (s : State) : Prop where
  ids : (s.allJobs.map Job.id).Nodup
  fresh : ∀ j ∈ s.allJobs, j.id < s.nextJob
  own : ∀ j ∈ s.mgmtWaiting, j.work.frame = none

theorem State.JobsLaw.of_work {a b : State} (same : b.work = a.work) (law : a.JobsLaw) : b.JobsLaw := by
  have jobs := State.allJobs_of_work same
  obtain ⟨_, _, mgmt, next, _⟩ := State.work_eq_iff.mp same
  exact ⟨jobs ▸ law.ids, by rw [jobs, next]; exact law.fresh, by rw [mgmt]; exact law.own⟩

/-- Fewer jobs, or the same ones in other places. -/
theorem State.JobsLaw.fewer {a b : State} (law : a.JobsLaw) (jobs : b.allJobs.Subperm a.allJobs)
    (next : a.nextJob ≤ b.nextJob) (mgmt : ∀ j ∈ b.mgmtWaiting, j.work.frame = none) : b.JobsLaw := by
  refine ⟨?_, fun j held => Nat.lt_of_lt_of_le (law.fresh j (jobs.subset held)) next, mgmt⟩
  obtain ⟨l, perm, sub⟩ := jobs
  exact (perm.map Job.id).nodup_iff.mp (law.ids.sublist (sub.map Job.id))

/-- A job with the next identity joins fewer or the same jobs. -/
theorem State.JobsLaw.enter {a b : State} (law : a.JobsLaw) {j : Job} {kept : List Job}
    (jobs : b.allJobs.Perm (j :: kept)) (sub : kept.Subperm a.allJobs) (id : j.id = a.nextJob)
    (next : b.nextJob = a.nextJob + 1) (mgmt : ∀ j ∈ b.mgmtWaiting, j.work.frame = none) : b.JobsLaw := by
  obtain ⟨l, perm, sublist⟩ := sub
  have ids := (perm.map Job.id).nodup_iff.mp (law.ids.sublist (sublist.map Job.id))
  have below : ∀ k ∈ kept, k.id < a.nextJob := fun k held => law.fresh k (sublist.subset (perm.mem_iff.mpr held))
  refine ⟨(jobs.map Job.id).nodup_iff.mpr ?_, fun k held => ?_, mgmt⟩
  · rw [List.map_cons, List.nodup_cons]
    refine ⟨fun held => ?_, ids⟩
    obtain ⟨k, member, same⟩ := List.mem_map.mp held
    exact absurd (same.trans id) (Nat.ne_of_lt (below k member))
  · rw [next]
    rcases List.mem_cons.mp (jobs.mem_iff.mp held) with rfl | member
    · omega
    · exact Nat.lt_succ_of_lt (below k member)

/-! ## The job of an identity -/

theorem State.JobsLaw.unique (law : s.JobsLaw) {j k : Job} (hj : j ∈ s.allJobs) (hk : k ∈ s.allJobs)
    (same : j.id = k.id) : j = k := List.inj_on_of_nodup_map law.ids hj hk same

theorem perm_cons_filter_id {l : List Job} (ids : (l.map Job.id).Nodup) {j : Job} (member : j ∈ l) :
    l.Perm (j :: l.filter fun k => k.id ≠ j.id) := by
  induction l with
  | nil => cases member
  | cons k l ih =>
    rw [List.map_cons, List.nodup_cons] at ids
    obtain ⟨new, ids⟩ := ids
    by_cases same : k = j
    · subst same
      have rest : l.filter (fun i => i.id ≠ k.id) = l := List.filter_eq_self.mpr fun i held => by
        simpa using fun same : i.id = k.id => new (same ▸ List.mem_map_of_mem held)
      simp only [ne_eq, not_true_eq_false, decide_false, Bool.false_eq_true, not_false_eq_true, List.filter_cons_of_neg]
      rw [show l.filter (fun i => decide ¬ i.id = k.id) = l from rest]
    · have held : j ∈ l := (List.mem_cons.mp member).resolve_left (Ne.symm same)
      have other : k.id ≠ j.id := fun same => new (by rw [same]; exact List.mem_map_of_mem held)
      rw [List.filter_cons_of_pos (by simpa using other)]
      exact ((ih ids held).cons k).trans (.swap _ _ _)

theorem State.mem_allJobs_of_waiting {j : Job} (waits : j ∈ s.waiting) : j ∈ s.allJobs := by
  simp [State.allJobs, State.jobs, waits]

/-- R117: a waiting job removed leaves the jobs, and no other does. -/
theorem State.JobsLaw.removeJob_allJobs (law : s.JobsLaw) {j : Job} (waits : j ∈ s.waiting) :
    s.allJobs.Perm (j :: (s.removeJob j).allJobs) := by
  have ids : (s.waiting.map Job.id).Nodup := by
    have all := law.ids
    rw [State.allJobs, State.jobs, List.append_assoc, List.map_append] at all
    exact (List.nodup_append.mp all).1
  have removed := State.allJobs_of_work (s.removeJob_work j)
  rw [removed]
  simp only [State.allJobs, State.jobs, ← List.cons_append]
  exact ((perm_cons_filter_id ids waits).append_right _).append_right _

/-- The jobs after a close: a waiting job of the exchange has left. -/
theorem State.JobsLaw.closeExchange_allJobs (law : s.JobsLaw) (i : Fin 128) (n : Nat) :
    ((s.closeExchange i n).allJobs.Perm s.allJobs ∧ (s.closeExchange i n).freeSlots = s.freeSlots) ∨
      ∃ j, s.allJobs.Perm (j :: (s.closeExchange i n).allJobs) ∧
        (s.closeExchange i n).freeSlots = s.freeSlots ++ j.work.frame.toList := by
  rcases s.closeExchange_cases i n with ⟨_, h⟩ | ⟨x, _, _, h⟩ | ⟨x, j, _, waits, _, h⟩ <;> rw [h]
  · exact .inl ⟨.refl _, rfl⟩
  · exact .inl ⟨.refl _, rfl⟩
  · have closed : (s.setExchange i none).JobsLaw := ⟨law.ids, law.fresh, law.own⟩
    refine .inr ⟨j, (closed.removeJob_allJobs waits).trans (.cons j ?_), ?_⟩
    · exact (State.admitWaiting_allJobs (((s.setExchange i none).removeJob j).releaseRefs x.slot x.bank 2)).symm
    · obtain ⟨w, v, m, shape⟩ := State.admitWaiting_shape (((s.setExchange i none).removeJob j).releaseRefs x.slot x.bank 2)
      rw [shape]
      show ((s.setExchange i none).removeJob j).freeSlots = _
      unfold State.removeJob
      dsimp only
      split
      next none => rw [none]; simp
      next some => rw [some]; rfl

theorem State.admitWaiting_mgmtWaiting (s : State) : ∀ j ∈ s.admitWaiting.mgmtWaiting, j ∈ s.mgmtWaiting := by
  unfold State.admitWaiting
  split
  · exact fun j h => h
  · split
    · intro j held
      obtain ⟨w, v, h⟩ := State.enterJob_shape { s with mgmtWaiting := none } _
      rw [h] at held
      cases held
    · exact fun j h => h

theorem State.finishLane_mgmtWaiting (s : State) (l : Fin 4) : ∀ j ∈ (s.finishLane l).mgmtWaiting, j ∈ s.mgmtWaiting := by
  intro j held
  have before := State.admitWaiting_mgmtWaiting _ j held
  obtain ⟨w, v, h⟩ := State.takeOn_shape { s with lanes := s.lanes.set l none } l
  rwa [h] at before

theorem State.closeExchange_mgmtWaiting (s : State) (i : Fin 128) (n : Nat) :
    ∀ j ∈ (s.closeExchange i n).mgmtWaiting, j ∈ s.mgmtWaiting := by
  intro j held
  rcases s.closeExchange_cases i n with ⟨_, h⟩ | ⟨x, _, _, h⟩ | ⟨x, k, _, _, _, h⟩ <;> rw [h] at held
  · exact held
  · exact held
  · have before := State.admitWaiting_mgmtWaiting _ j held
    obtain ⟨fr, fs, shape⟩ := (s.setExchange i none).removeJob_shape k
    rw [shape] at before
    exact before

theorem State.finishLane_subperm (s : State) (l : Fin 4) : (s.finishLane l).allJobs.Subperm s.allJobs := by
  cases runs : s.lanes[l] with
  | some r => exact (List.sublist_cons_self _ _).subperm.trans (State.finishLane_allJobs runs).subperm
  | none =>
    have same : ({ s with lanes := s.lanes.set l none } : State) = s := by
      have lanes : s.lanes.set l none = s.lanes := by
        rw [← runs]
        simp
      rw [lanes]
    unfold State.finishLane
    rw [same]
    refine ((State.admitWaiting_allJobs _).trans ?_).subperm
    obtain ⟨w, v, shape⟩ := s.takeOn_shape l
    have mgmt : (s.takeOn l).mgmtWaiting = s.mgmtWaiting := by rw [shape]
    rw [State.allJobs, mgmt]
    exact (State.takeOn_jobs runs).append_right _

theorem State.enterJob_allJobs (s : State) (j : Job) : (s.enterJob j).allJobs.Perm (j :: s.allJobs) := by
  obtain ⟨w, v, h⟩ := s.enterJob_shape j
  have mgmt : (s.enterJob j).mgmtWaiting = s.mgmtWaiting := by rw [h]
  rw [State.allJobs, mgmt, State.allJobs, ← List.cons_append]
  exact (s.enterJob_jobs j).append_right _

@[simp] theorem State.enterJob_nextJob (s : State) (j : Job) : (s.enterJob j).nextJob = s.nextJob := by
  obtain ⟨w, v, h⟩ := s.enterJob_shape j
  rw [h]

@[simp] theorem State.enterJob_mgmtWaiting (s : State) (j : Job) : (s.enterJob j).mgmtWaiting = s.mgmtWaiting := by
  obtain ⟨w, v, h⟩ := s.enterJob_shape j
  rw [h]

theorem State.offerMgmt_own {w : JobWork} (law : s.JobsLaw) (own : w.frame = none) :
    ∀ j ∈ (s.offerMgmt w).mgmtWaiting, j.work.frame = none := by
  unfold State.offerMgmt
  dsimp only
  split
  · rw [State.enterJob_mgmtWaiting]
    exact law.own
  · rintro _ ⟨⟩
    exact own

theorem jobsLaw_workSteps : WorkSteps State.JobsLaw where
  same := .of_work
  finishLane {a} l law := by
    refine law.fewer (a.finishLane_subperm l) ?_ fun j held => law.own j (a.finishLane_mgmtWaiting l j held)
    obtain ⟨w, v, m, h⟩ := a.finishLane_shape l
    rw [h]
  offerMgmt {a w} law own := by
    obtain ⟨kept, jobs, which⟩ := a.offerMgmt_allJobs w
    refine law.enter jobs ?_ rfl ?_ (State.offerMgmt_own law own)
    · rcases which with rfl | rfl
      · exact .refl _
      · exact (List.sublist_append_left _ _).subperm
    · obtain ⟨q, v, m, h⟩ := a.offerMgmt_shape w
      rw [h]
  acceptReply {a i x k rest} f law _ _ _ := by
    unfold State.acceptReply
    refine law.enter (State.enterJob_allJobs _ _) (.refl a.allJobs) rfl (State.enterJob_nextJob _ _) ?_
    rw [State.enterJob_mgmtWaiting]
    exact law.own
  close {a} i n law := by
    refine law.fewer ?_ ?_ fun j held => law.own j (a.closeExchange_mgmtWaiting i n j held)
    · rcases law.closeExchange_allJobs i n with ⟨same, _⟩ | ⟨j, left, _⟩
      · exact same.subperm
      · exact (List.sublist_cons_self _ _).subperm.trans left.symm.subperm
    · obtain ⟨sl, w, v, m, fr, fs, h⟩ := a.closeExchange_shape i n
      rw [h]
  release _ _ _ law := ⟨law.ids, law.fresh, law.own⟩
  awaits law _ _ := ⟨law.ids, law.fresh, law.own⟩
  expired law _ := ⟨law.ids, law.fresh, law.own⟩
  tick law := ⟨law.ids, law.fresh, law.own⟩

theorem State.cleared_jobsLaw (waiting : s.waiting = []) (lanes : s.lanes = Vector.replicate 4 none)
    (mgmt : s.mgmtWaiting = none) : s.JobsLaw := by
  have none_left : s.allJobs = [] := by
    rw [State.allJobs, State.jobs, waiting, lanes, mgmt]
    rfl
  exact ⟨by simp [none_left], by simp [none_left], by simp [mgmt]⟩

theorem jobsLaw_keeps : Keeps State.JobsLaw where
  ordinary := jobsLaw_workSteps.ordinary
  items := jobsLaw_workSteps.items fun law _ => ⟨law.ids, law.fresh, law.own⟩
  banks :=
    { openExchange := fun {a c} d b k rest f law _ _ _ _ _ => by
        unfold State.openExchange
        refine law.enter (State.enterJob_allJobs _ _) (.refl a.allJobs) rfl (State.enterJob_nextJob _ _) ?_
        rw [State.enterJob_mgmtWaiting]
        exact law.own
      commitStage := fun i g code keys given law => by
        unfold State.commitStage
        split <;> exact ⟨law.ids, law.fresh, law.own⟩
      switchSlot := fun law e => by
        obtain ⟨i, k, _, rfl⟩ := State.switchSlot_ok e
        exact ⟨law.ids, law.fresh, law.own⟩
      retireSlot := fun law e => by
        obtain ⟨i, x, _, _, rfl⟩ := State.retireSlot_ok e
        exact ⟨law.ids, law.fresh, law.own⟩ }
  ends := jobsLaw_workSteps.ends fun _ => State.cleared_jobsLaw rfl rfl rfl
  starts := jobsLaw_workSteps.starts (fun _ => State.cleared_jobsLaw rfl rfl rfl)
    (fun _ => State.cleared_jobsLaw rfl rfl rfl) fun _ => State.cleared_jobsLaw rfl rfl rfl

end Sys2Proof.Machine
end

section
/-! SUPPORT. The holders of each frame slot counted (R120): the free list, the jobs, and the entries of both ports. -/

namespace Sys2Proof.Machine

variable {s : State}

/-- The frame slots the jobs hold. -/
def State.jobSlots (s : State) : List (Fin 64) := s.allJobs.filterMap fun j => j.work.frame

/-- How often frame slot `i` is free or held. -/
def State.slotCount (s : State) (i : Fin 64) : Nat :=
  s.freeSlots.count i + s.jobSlots.count i + (s.portT.entries.filterMap OwnEntry.slot).count i +
    (s.portL.entries.filterMap OwnEntry.slot).count i

/-- The frame slot of an entry counted. -/
def OwnEntry.counts (e : OwnEntry) (i : Fin 64) : Nat := e.slot.toList.count i

theorem PortState.slotsHeld_eq (x : PortState) : x.slotsHeld = x.entries.filterMap OwnEntry.slot := by
  unfold PortState.slotsHeld PortState.entries
  rw [List.filterMap_append]
  congr 1
  cases x.sending with
  | none => rfl
  | some w =>
    obtain ⟨kind, frame, wire⟩ := w
    cases kind with
    | bridged => rfl
    | own e => cases e <;> rfl

theorem State.slotsOfJobs_eq (own : ∀ j ∈ s.mgmtWaiting, j.work.frame = none) : s.slotsOfJobs = s.jobSlots := by
  have lanes : s.lanes.toList.filterMap (fun r => r.bind Running.frame) =
      (laneJobs s.lanes).filterMap fun j => j.work.frame := by
    rw [laneJobs, List.filterMap_filterMap]
    congr 1
    funext r
    cases r <;> simp
  have mgmt : s.mgmtWaiting.toList.filterMap (fun j => j.work.frame) = [] := by
    cases waits : s.mgmtWaiting with
    | none => rfl
    | some j => simp [own j waits]
  simp [State.slotsOfJobs, State.jobSlots, State.allJobs, State.jobs, lanes, mgmt]

theorem State.jobIds_eq (s : State) : s.jobIds = s.allJobs.map Job.id := by
  have lanes : s.lanes.toList.filterMap (fun r => r.map Running.id) = (laneJobs s.lanes).map Job.id := by
    rw [laneJobs, List.map_filterMap]
    congr 1
    funext r
    cases r <;> simp
  simp [State.jobIds, State.allJobs, State.jobs, lanes]

/-- R120 by counting. -/
theorem State.storeLaw_iff (s : State) : s.StoreLaw ↔ s.JobsLaw ∧ ∀ i, s.slotCount i = 1 := by
  have jobs : s.jobIds.Nodup ∧ (∀ n ∈ s.jobIds, n < s.nextJob) ∧ (∀ j ∈ s.mgmtWaiting, j.work.frame = none) ↔
      s.JobsLaw := by
    rw [State.jobIds_eq]
    refine ⟨fun h => ⟨h.1, fun j held => h.2.1 _ (List.mem_map_of_mem held), h.2.2⟩,
      fun h => ⟨h.ids, fun n held => ?_, h.own⟩⟩
    obtain ⟨j, member, rfl⟩ := List.mem_map.mp held
    exact h.fresh j member
  unfold State.StoreLaw
  rw [jobs, and_comm]
  refine and_congr_right fun law => ?_
  rw [List.perm_iff_count]
  refine forall_congr' fun i => ?_
  rw [State.slotsOfJobs_eq law.own, PortState.slotsHeld_eq, PortState.slotsHeld_eq,
    List.count_eq_one_of_mem (List.nodup_finRange 64) (List.mem_finRange i)]
  simp only [List.count_append]
  rfl

/-! ## What keeps the count -/

theorem State.slotCount_congr {a b : State} {i : Fin 64} (free : b.freeSlots.count i = a.freeSlots.count i)
    (jobs : b.jobSlots.count i = a.jobSlots.count i) (ports : ∀ p, (b.port p).entries = (a.port p).entries) :
    b.slotCount i = a.slotCount i := by
  have portT : b.portT.entries = a.portT.entries := ports .T
  have portL : b.portL.entries = a.portL.entries := ports .L
  simp only [State.slotCount, free, jobs, portT, portL]

theorem PortState.entries_of_outgoing {x y : PortState} (h : y.outgoing = x.outgoing) : y.entries = x.entries := by
  obtain ⟨sending, queue⟩ := Prod.mk.inj h
  simp only [PortState.entries, sending, queue]

theorem State.jobSlots_of_work {a b : State} (h : b.work = a.work) : b.jobSlots = a.jobSlots := by
  rw [State.jobSlots, State.allJobs_of_work h, State.jobSlots]

/-- Nothing of the engine, the free list or the outgoing frames has moved. -/
theorem State.slotCount_of_work {a b : State} (work : b.work = a.work) (free : b.freeSlots = a.freeSlots)
    (outgoing : ∀ p, (b.port p).outgoing = (a.port p).outgoing) (i : Fin 64) : b.slotCount i = a.slotCount i :=
  State.slotCount_congr (by rw [free]) (by rw [State.jobSlots_of_work work]) fun p =>
    PortState.entries_of_outgoing (outgoing p)

theorem State.jobSlots_perm {a : State} {jobs : List Job} (h : a.allJobs.Perm jobs) (i : Fin 64) :
    a.jobSlots.count i = (jobs.filterMap fun j => j.work.frame).count i :=
  (h.filterMap _).count_eq i

theorem count_filterMap_cons {j : Job} {jobs : List Job} (i : Fin 64) :
    ((j :: jobs).filterMap fun j => j.work.frame).count i =
      j.work.frame.toList.count i + (jobs.filterMap fun j => j.work.frame).count i := by
  cases frame : j.work.frame <;> simp [frame, List.count_cons, Nat.add_comm]

/-- A frame slot freed is one more that is free (R119). -/
theorem State.slotCount_freeFrame (s : State) (k i : Fin 64) :
    (s.freeFrame k).slotCount i = s.slotCount i + [k].count i := by
  have jobs : (s.freeFrame k).jobSlots = s.jobSlots := rfl
  have free : (s.freeFrame k).freeSlots = s.freeSlots ++ [k] := rfl
  simp only [State.slotCount, jobs, free, State.freeFrame_portT, State.freeFrame_portL, List.count_append]
  omega

/-! ## The engine -/

theorem State.slotCount_enterJob (s : State) (j : Job) (i : Fin 64) :
    (s.enterJob j).slotCount i = s.slotCount i + j.work.frame.toList.count i := by
  obtain ⟨w, v, h⟩ := s.enterJob_shape j
  have jobs := State.jobSlots_perm (s.enterJob_allJobs j) i
  rw [count_filterMap_cons] at jobs
  have rest : (s.enterJob j).freeSlots = s.freeSlots ∧ (s.enterJob j).portT = s.portT ∧
      (s.enterJob j).portL = s.portL := by rw [h]; exact ⟨rfl, rfl, rfl⟩
  simp only [State.slotCount, rest, jobs]
  simp only [State.jobSlots]
  omega

theorem State.slotCount_finishLane {l : Fin 4} {r : Running} (runs : s.lanes[l] = some r) (i : Fin 64) :
    (s.finishLane l).slotCount i + r.frame.toList.count i = s.slotCount i := by
  obtain ⟨w, v, m, h⟩ := s.finishLane_shape l
  have jobs := State.jobSlots_perm (State.finishLane_allJobs runs).symm i
  rw [count_filterMap_cons, Running.job_frame] at jobs
  have rest : (s.finishLane l).freeSlots = s.freeSlots ∧ (s.finishLane l).portT = s.portT ∧
      (s.finishLane l).portL = s.portL := by rw [h]; exact ⟨rfl, rfl, rfl⟩
  simp only [State.slotCount, rest, jobs]
  simp only [State.jobSlots]
  omega

theorem State.slotCount_offerMgmt (law : s.JobsLaw) {w : JobWork} (own : w.frame = none) (i : Fin 64) :
    (s.offerMgmt w).slotCount i = s.slotCount i := by
  obtain ⟨q, v, m, h⟩ := s.offerMgmt_shape w
  obtain ⟨kept, perm, which⟩ := s.offerMgmt_allJobs w
  have jobs := State.jobSlots_perm perm i
  rw [count_filterMap_cons, own] at jobs
  refine State.slotCount_congr (by rw [h]) (jobs.trans ?_) fun p => by rw [h]; cases p <;> rfl
  rcases which with rfl | rfl
  · simp [State.jobSlots]
  · rw [← State.slotsOfJobs_eq law.own]
    have mgmt : (s.mgmtWaiting.toList.filterMap fun j => j.work.frame) = [] := by
      cases waits : s.mgmtWaiting with
      | none => rfl
      | some j => simp [law.own j waits]
    rw [State.slotsOfJobs_eq law.own]
    simp [State.jobSlots, State.allJobs, mgmt]

theorem State.slotCount_closeExchange (law : s.JobsLaw) (t : Fin 128) (n : Nat) (i : Fin 64) :
    (s.closeExchange t n).slotCount i = s.slotCount i := by
  have ports : ∀ p, (s.closeExchange t n).port p = s.port p := State.port_of_sides (s.closeExchange_sides t n)
  have portT : (s.closeExchange t n).portT = s.portT := ports .T
  have portL : (s.closeExchange t n).portL = s.portL := ports .L
  rcases law.closeExchange_allJobs t n with ⟨same, free⟩ | ⟨j, left, free⟩
  · exact State.slotCount_congr (by rw [free]) (State.jobSlots_perm same i) fun p => by rw [ports]
  · have jobs := State.jobSlots_perm left i
    rw [count_filterMap_cons] at jobs
    simp only [State.slotCount, portT, portL, free, List.count_append, jobs]
    simp only [State.jobSlots]
    omega

/-! ## The ports -/

theorem State.slotCount_setPort (s : State) (p : PortId) (x : PortState) (i : Fin 64) :
    (s.setPort p x).slotCount i + ((s.port p).entries.filterMap OwnEntry.slot).count i =
      s.slotCount i + (x.entries.filterMap OwnEntry.slot).count i := by
  cases p <;> simp only [State.slotCount, State.jobSlots, State.setPort, State.port, State.allJobs, State.jobs] <;> omega

theorem count_entries (e : OwnEntry) (es : List OwnEntry) (i : Fin 64) :
    ((e :: es).filterMap OwnEntry.slot).count i = e.counts i + (es.filterMap OwnEntry.slot).count i := by
  unfold OwnEntry.counts
  cases slot : e.slot <;> simp [slot, List.count_cons, Nat.add_comm]

theorem State.slotCount_queue (s : State) (p : PortId) (e : OwnEntry) (i : Fin 64) :
    (s.setPort p { s.port p with ownQueue := (s.port p).ownQueue ++ [e] }).slotCount i =
      s.slotCount i + e.counts i := by
  have set := s.slotCount_setPort p { s.port p with ownQueue := (s.port p).ownQueue ++ [e] } i
  have one := count_entries e [] i
  simp only [PortState.entries, List.filterMap_append, List.count_append] at set
  rw [one] at set
  simp only [List.filterMap_nil, List.count_nil] at set
  dsimp only
  omega

/-- A port whose entries are the same in another order. -/
theorem State.slotCount_of_perm {a b : State} (work : b.work = a.work) (free : b.freeSlots = a.freeSlots)
    (ports : ∀ p, (b.port p).entries.Perm (a.port p).entries) (i : Fin 64) : b.slotCount i = a.slotCount i := by
  have portT := ((ports .T).filterMap OwnEntry.slot).count_eq i
  have portL := ((ports .L).filterMap OwnEntry.slot).count_eq i
  simp only [State.port] at portT portL
  simp only [State.slotCount, State.jobSlots_of_work work, free, portT, portL]

theorem State.arbiter_entries (s : State) (p q : PortId) : ((s.arbiter p).port q).entries.Perm (s.port q).entries := by
  by_cases same : p = q
  · subst same
    rcases s.arbiter_cases p with ⟨r, _⟩ | ⟨f, rest, idle, _, _, _, r⟩ | ⟨e, rest, idle, _, queue, _, r⟩ <;> rw [r]
    · have port : ((s.takeBridged p f rest).port p).entries = (s.port p).ownQueue := by
        unfold State.takeBridged
        rw [State.setPort_get, if_pos rfl]
        simp [PortState.entries]
      rw [port]
      simp [PortState.entries, idle]
    · rw [State.takeOwn_port, if_pos rfl]
      simp only [PortState.entries, idle, queue, List.append_nil]
      exact List.perm_append_singleton e rest
  · rw [s.arbiter_other same]

theorem State.arbiter_freeSlots (s : State) (p : PortId) : (s.arbiter p).freeSlots = s.freeSlots := by
  obtain ⟨x, w, n, h, _⟩ := s.arbiter_shape p
  rw [h]
  exact State.setPort_freeSlots ..

theorem State.slotCount_arbiter (s : State) (p : PortId) (i : Fin 64) : (s.arbiter p).slotCount i = s.slotCount i :=
  State.slotCount_of_perm (s.arbiter_work p) (s.arbiter_freeSlots p) (s.arbiter_entries p) i

theorem State.slotCount_releaseEntry (s : State) (p : PortId) (e : OwnEntry) (i : Fin 64) :
    (s.releaseEntry p e).slotCount i = s.slotCount i + e.counts i := by
  have outgoing := fun q => PortState.outgoing_of_traffic (s.releaseEntry_traffic p e q)
  cases e with
  | wrapped k | forwarded k => exact s.slotCount_freeFrame k i
  | standIn k | response | notice => exact State.slotCount_of_work rfl rfl outgoing i
  | arp b => exact State.slotCount_of_work (s.setPort_work p _) (s.setPort_freeSlots p _) outgoing i

theorem State.slotCount_guardBlocked (s : State) (i : Fin 64) : s.guardBlocked.slotCount i = s.slotCount i := by
  obtain ⟨st, h, _⟩ := s.guardBlocked_shape
  rw [h]
  rfl

theorem State.slotCount_bump (s : State) (c : Counter) (i : Fin 64) : (s.bump c).slotCount i = s.slotCount i := by
  rw [State.bump_eq]
  rfl

/-- An entry offered is queued or released: its frame slot has a holder (R7, R160). -/
theorem State.slotCount_offerOwn (s : State) (p : PortId) (e : OwnEntry) (i : Fin 64) :
    (s.offerOwn p e).1.slotCount i = s.slotCount i + e.counts i := by
  rcases s.offerOwn_cases p e with ⟨_, r⟩ | ⟨_, _, _, r⟩ | ⟨_, _, r⟩ <;> rw [r]
  · exact s.slotCount_releaseEntry p e i
  · rw [State.slotCount_releaseEntry, State.slotCount_guardBlocked]
  · rw [State.slotCount_arbiter, State.slotCount_queue]

theorem State.slotCount_offerBridge (s : State) (p : PortId) (f : Bytes) (i : Fin 64) :
    (s.offerBridge p f).slotCount i = s.slotCount i := by
  rcases s.offerBridge_cases p f with ⟨_, r⟩ | ⟨_, _, _, r⟩ | ⟨_, _, _, r⟩ | ⟨_, _, _, r⟩ <;> rw [r]
  · exact s.slotCount_bump _ i
  · exact s.slotCount_guardBlocked i
  · exact s.slotCount_bump _ i
  · rw [State.slotCount_arbiter]
    refine State.slotCount_of_work (s.setPort_work p _) (s.setPort_freeSlots p _) (fun q => ?_) i
    rw [State.setPort_get]
    split
    next same => subst same; rfl
    · rfl

/-- A change of neither work, free list nor sides. -/
theorem State.slotCount_of_sides {a b : State} (work : b.work = a.work) (free : b.freeSlots = a.freeSlots)
    (sides : b.sides = a.sides) (i : Fin 64) : b.slotCount i = a.slotCount i :=
  State.slotCount_of_work work free (fun p => by rw [State.port_of_sides sides p]) i

end Sys2Proof.Machine
end

section
/-! SUPPORT. One holder for each frame slot under every operation (R120, Table 6-2). -/

namespace Sys2Proof.Machine

variable {s : State}

/-! ## Exchanges, stand-ins and results -/

theorem State.slotCount_countStandIn (s : State) (t : Fin 128) (r : Reason) (i : Fin 64) :
    (s.countStandIn t r).slotCount i = s.slotCount i := by
  refine State.slotCount_of_sides ?_ ?_ (s.countStandIn_sides t r) i <;> unfold State.countStandIn <;> dsimp only <;> split
  · simp
  · simp
  · rw [State.bump_eq]
  · rw [State.bumpStat_eq, State.bump_eq]
    rfl

theorem State.slotCount_standIn (s : State) (t : Fin 128) (r : Reason) (q : Option Sequence) (port : UdpPort)
    (i : Fin 64) : (s.standIn t r q port).slotCount i = s.slotCount i := by
  rw [← s.slotCount_countStandIn t r i]
  unfold State.standIn State.buildStandIn
  split
  · exact State.slotCount_bump _ _ i
  · rw [State.slotCount_offerOwn]
    rfl

theorem State.slotCount_closeLost (law : s.JobsLaw) (t : Fin 128) (x : Exchange) (n : Nat) (i : Fin 64) :
    (s.closeLost t x n).slotCount i = s.slotCount i := by
  have latched : (s.latch .replyLost).JobsLaw := law.of_work (s.latch_work _)
  unfold State.closeLost
  rw [State.slotCount_standIn, State.bumpStat_eq]
  exact State.slotCount_closeExchange latched t n i

theorem State.slotCount_acceptReply {k : Fin 64} {rest : List (Fin 64)} (free : s.freeSlots = k :: rest)
    (t : Fin 128) (x : Exchange) (f : Bytes) (i : Fin 64) : (s.acceptReply t x k rest f).slotCount i = s.slotCount i := by
  unfold State.acceptReply
  rw [State.slotCount_enterJob]
  simp only [State.slotCount, free, List.count_cons]
  show rest.count i + s.jobSlots.count i + _ + _ + [k].count i = _
  simp only [List.count_cons, List.count_nil, State.takeRefs_eq, State.setExchange_portT, State.setExchange_portL]
  omega

theorem State.slotCount_openExchange {k : Fin 64} {rest : List (Fin 64)} (free : s.freeSlots = k :: rest)
    (c : Capture) (d : Destination) (b : BankId) (f : Bytes) (i : Fin 64) :
    (s.openExchange c d b k rest f).slotCount i = s.slotCount i := by
  unfold State.openExchange
  rw [State.slotCount_enterJob]
  simp only [State.slotCount, free, List.count_cons]
  show rest.count i + s.jobSlots.count i + _ + _ + [k].count i = _
  simp only [List.count_cons, List.count_nil, State.setBank_portT, State.setBank_portL, State.setExchange_portT,
    State.setExchange_portL]
  omega

theorem Running.frame_of_wraps {r : Running} {t : JobTarget} (h : r.wraps = some t) : r.frame = some t.frame := by
  cases r <;> cases h
  rfl

theorem Running.frame_of_verifies {r : Running} {t : JobTarget} (h : r.verifies = some t) : r.frame = some t.frame := by
  cases r <;> cases h
  rfl

theorem State.Detached.frame {r : Running} {t : JobTarget} (h : s.Detached r t) : r.frame = some t.frame := by
  rcases h with ⟨wraps, _⟩ | ⟨verifies, _⟩
  · exact Running.frame_of_wraps wraps
  · exact Running.frame_of_verifies verifies

theorem State.slotCount_sendWrapped (law : s.JobsLaw) (t : JobTarget) (c : Capture) (d : Destination) (v : WrapValues)
    (x : Exchange) (i : Fin 64) :
    (s.sendWrapped t c d v x).slotCount i = s.slotCount i + [t.frame].count i := by
  have offered : ((s.wrapBuilt t c d v).offerOwn .L (.wrapped t.frame)).1.slotCount i =
      s.slotCount i + [t.frame].count i := State.slotCount_offerOwn _ _ _ i
  have jobs : ((s.wrapBuilt t c d v).offerOwn .L (.wrapped t.frame)).1.JobsLaw := by
    refine law.of_work ?_
    exact State.offerOwn_work _ _ _
  rw [State.sendWrapped_eq, ← offered]
  dsimp only
  split
  · unfold State.wrapTaken
    rw [State.bumpStat_eq, State.bump_eq]
    rfl
  · rw [State.slotCount_standIn, State.slotCount_closeExchange jobs]

theorem State.slotCount_forwardReply (law : s.JobsLaw) (t : JobTarget) (n : Nat) (x : Exchange) (i : Fin 64) :
    (s.forwardReply t n x).slotCount i = s.slotCount i + [t.frame].count i := by
  unfold State.forwardReply
  dsimp only
  rw [State.slotCount_bump, State.slotCount_closeExchange, State.slotCount_offerOwn]
  · rfl
  · refine law.of_work ?_
    exact State.offerOwn_work _ _ _

theorem State.slotCount_failReply (law : s.JobsLaw) (t : JobTarget) (x : Exchange) (i : Fin 64) :
    (s.failReply t x).slotCount i = s.slotCount i + [t.frame].count i := by
  have told : (((s.freeFrame t.frame).latch .tagFail).bump .tagFailures).slotCount i =
      s.slotCount i + [t.frame].count i := by
    rw [State.slotCount_bump]
    exact s.slotCount_freeFrame t.frame i
  unfold State.failReply
  dsimp only
  split
  · rw [State.slotCount_closeLost (law.of_work (by simp)), told]
  · exact told

/-- The frame slot of a completed job, beside what the state still holds. -/
theorem State.slotCount_finishes {l : Fin 4} {r : Running} {k : Fin 64} (runs : s.lanes[l] = some r)
    (frame : r.frame = some k) (i : Fin 64) : (s.finishLane l).slotCount i + [k].count i = s.slotCount i := by
  have left := State.slotCount_finishLane runs i
  rwa [frame] at left

/-! ## Notices -/

theorem State.slotCount_askNotice (s : State) (i : Fin 64) : s.askNotice.slotCount i = s.slotCount i := by
  unfold State.askNotice
  split
  · rfl
  next d _ =>
    split
    next w _ =>
      unfold State.rewriteNotice
      dsimp only
      split
      · rfl
      · have left : ((s.portL.ownQueue.filter (· ≠ .notice)).filterMap OwnEntry.slot).count i =
            (s.portL.ownQueue.filterMap OwnEntry.slot).count i := by
          rw [List.filterMap_filter]
          congr 1
          refine List.filterMap_congr fun e _ => ?_
          cases e <;> rfl
        have port : s.guardBlocked.portL = s.portL := s.guardBlocked_port .L
        rw [← s.slotCount_guardBlocked i]
        simp only [State.slotCount, PortState.entries, List.filterMap_append, List.count_append, port, left]
        rfl
    · unfold State.newNotice
      rw [State.slotCount_offerOwn]
      rfl

/-! ## The law under the operations -/

theorem State.StoreLaw.jobs (law : s.StoreLaw) : s.JobsLaw := (s.storeLaw_iff.mp law).1

/-- The law where the jobs keep theirs and no slot is counted otherwise. -/
theorem State.StoreLaw.of_count {a b : State} (law : a.StoreLaw) (jobs : a.JobsLaw → b.JobsLaw)
    (count : a.JobsLaw → ∀ i, b.slotCount i = a.slotCount i) : b.StoreLaw := by
  obtain ⟨held, one⟩ := a.storeLaw_iff.mp law
  exact b.storeLaw_iff.mpr ⟨jobs held, fun i => (count held i).trans (one i)⟩

theorem storeLaw_ordinary : Ordinary State.StoreLaw where
  aside law e := law.of_count (fun h => h.of_work e.work) fun _ _ => by rw [e]; rfl
  receive {a} p f law := law.of_count (fun h => h.of_work (by simp)) fun _ i =>
    State.slotCount_of_work (by simp) (a.setPort_freeSlots p _)
      (fun q => PortState.outgoing_of_traffic (a.setPort_traffic p q (by rfl))) i
  mgu law _ _ := law
  offerMgmt law own := law.of_count (fun h => jobsLaw_workSteps.ordinary.offerMgmt h own) fun h i =>
    State.slotCount_offerMgmt h own i
  arpArrive {a} p f law := law.of_count (fun h => h.of_work (by simp)) fun _ i => by
    unfold State.arpArrive
    split
    · rfl
    · rw [State.slotCount_offerOwn]
      refine State.slotCount_of_work (a.setPort_work p _) (a.setPort_freeSlots p _) (fun q => ?_) i
      exact PortState.outgoing_of_traffic (a.setPort_traffic p q rfl)
  offerBridge {a} p f law := law.of_count (fun h => h.of_work (by simp)) fun _ => a.slotCount_offerBridge p f
  standIn {a i} r q port law _ := law.of_count (fun h => h.of_work (by simp)) fun _ => a.slotCount_standIn i r q port
  acceptReply {a i x k rest} f law valid open_ awaiting free room := law.of_count
    (fun h => jobsLaw_workSteps.ordinary.acceptReply f h valid open_ awaiting free room) fun _ =>
    State.slotCount_acceptReply free i x f
  close i law := law.of_count (jobsLaw_workSteps.ordinary.close i) fun h => State.slotCount_closeExchange h i 0
  lost {a i x} law open_ := law.of_count (fun h => jobsLaw_workSteps.ordinary.lost h open_) fun h =>
    State.slotCount_closeLost h i x 0
  expired law open_ := law.of_count (fun h => jobsLaw_workSteps.ordinary.expired h open_) fun _ _ => rfl
  tick law := law.of_count jobsLaw_workSteps.ordinary.tick fun _ _ => rfl
  finishMgmt {a l r} law runs own := law.of_count (fun h => jobsLaw_workSteps.ordinary.finishMgmt h runs own)
    fun _ i => by
      have left := State.slotCount_finishLane runs i
      rw [own] at left
      exact left
  discard {a l r t} law runs detached := law.of_count
    (fun h => jobsLaw_workSteps.ordinary.discard h runs detached) fun _ i => by
      rw [← State.slotCount_finishes runs detached.frame i]
      exact State.slotCount_freeFrame _ _ i
  sendWrapped {a l _ t c d v x} law runs open_ job := law.of_count
    (fun h => jobsLaw_workSteps.ordinary.sendWrapped h runs open_ job) fun h i => by
      rw [State.slotCount_sendWrapped (jobsLaw_workSteps.finishLane l h), State.slotCount_finishes runs rfl]
  forwardReply {a l _ t _ n _ x} law runs open_ job := law.of_count
    (fun h => jobsLaw_workSteps.ordinary.forwardReply h runs open_ job) fun h i => by
      rw [State.slotCount_forwardReply (jobsLaw_workSteps.finishLane l h), State.slotCount_finishes runs rfl]
  failReply {a l _ t _ _ _ x} law runs open_ job := law.of_count
    (fun h => jobsLaw_workSteps.ordinary.failReply h runs open_ job) fun h i => by
      rw [State.slotCount_failReply (jobsLaw_workSteps.finishLane l h), State.slotCount_finishes runs rfl]
  askNotice {a} law := law.of_count jobsLaw_workSteps.ordinary.askNotice fun _ => a.slotCount_askNotice
  linkUp {a p} law down := law.of_count (fun h => jobsLaw_workSteps.ordinary.linkUp h down) fun _ i => by
    rw [State.slotCount_arbiter]
    refine State.slotCount_of_work (a.setPort_work p _) (a.setPort_freeSlots p _) (fun q => ?_) i
    rw [State.setPort_get]
    split
    next same => subst same; rfl
    · rfl

theorem storeLaw_items : ItemRules State.StoreLaw :=
  have J : ItemRules State.JobsLaw := jobsLaw_keeps.items
  { writeSettings := fun law e => law.of_count (fun h => J.writeSettings h e) fun _ _ => by
      obtain ⟨x, _, rfl⟩ := State.writeSettings_ok e; rfl
    writeTill := fun law e => law.of_count (fun h => J.writeTill h e) fun h n => by
      obtain ⟨i, f, _, _, _, rfl⟩ := State.writeTill_ok e
      exact State.slotCount_closeExchange h i 0 n
    clearTill := fun law e => law.of_count (fun h => J.clearTill h e) fun h n => by
      obtain ⟨i, _, rfl⟩ := State.clearTill_ok e
      exact State.slotCount_closeExchange h i 0 n
    writeRule := fun law e => by obtain ⟨i, r, _, rfl⟩ := State.writeRule_ok e; exact law
    clearRule := fun law e => by obtain ⟨i, _, rfl⟩ := State.clearRule_ok e; exact law
    writeLocator := fun law e => by obtain ⟨i, l, _, rfl⟩ := State.writeLocator_ok e; exact law
    clearLocator := fun law e => by obtain ⟨i, _, rfl⟩ := State.clearLocator_ok e; exact law
    writeDestination := fun law e => by obtain ⟨i, _, rfl⟩ := State.writeDestination_ok e; exact law
    clearDestination := fun law e => by obtain ⟨i, _, rfl⟩ := State.clearDestination_ok e; exact law
    discardStage := fun law e => by obtain ⟨i, x, _, rfl⟩ := State.discardStage_ok e; exact law
    writeEventMap := fun law e => by obtain ⟨m, _, _, rfl⟩ := State.writeEventMap_ok e; exact law
    clearCounters := fun law => law }

theorem storeLaw_banks : BankRules State.StoreLaw where
  openExchange {a c} d b k rest f law valid closed key free room := law.of_count
    (fun h => jobsLaw_keeps.banks.openExchange d f h valid closed key free room) fun _ =>
    State.slotCount_openExchange free c d b f
  commitStage := fun i g code keys given law => by
    unfold State.commitStage
    split <;> exact law
  switchSlot law e := by obtain ⟨i, k, _, rfl⟩ := State.switchSlot_ok e; exact law
  retireSlot law e := by obtain ⟨i, x, _, _, rfl⟩ := State.retireSlot_ok e; exact law

/-! ## Where frames leave a port, and the starts -/

theorem State.slotCount_releaseAll (s : State) (p : PortId) (es : List OwnEntry) (i : Fin 64) :
    (es.foldl (fun st e => st.releaseEntry p e) s).slotCount i =
      s.slotCount i + (es.filterMap OwnEntry.slot).count i := by
  induction es generalizing s with
  | nil => rfl
  | cons e es ih =>
    rw [List.foldl_cons, ih, State.slotCount_releaseEntry, count_entries]
    omega

theorem foldl_slotCount {α : Type} {op : State → α → State} {i : Fin 64}
    (h : ∀ s a, (op s a).slotCount i = s.slotCount i) (as : List α) (s : State) :
    (as.foldl op s).slotCount i = s.slotCount i := by
  induction as generalizing s with
  | nil => rfl
  | cons a as ih => exact (ih _).trans (h s a)

/-- The frame slot of a transmission counted. -/
def TxKind.counts : TxKind → Fin 64 → Nat
  | .bridged, _ => 0
  | .own e, i => e.counts i

theorem State.slotCount_releaseAbandoned (s : State) (p : PortId) (k : TxKind) (i : Fin 64) :
    (s.releaseAbandoned p k).slotCount i = s.slotCount i + k.counts i := by
  cases k with
  | bridged => exact s.slotCount_bump _ i
  | own e =>
    cases e with
    | notice => rfl
    | wrapped | forwarded | standIn | response | arp => exact s.slotCount_releaseEntry p _ i

theorem State.slotCount_releaseSent (s : State) (p : PortId) (k : TxKind) (i : Fin 64) :
    (s.releaseSent p k).slotCount i = s.slotCount i + k.counts i := by
  cases k with
  | bridged => exact s.slotCount_bump _ i
  | own e =>
    cases e with
    | notice => exact State.slotCount_bump _ _ i
    | wrapped | forwarded | standIn | response | arp => exact s.slotCount_releaseEntry p _ i

/-- The entries of a port counted: those of its queue, and that of its transmission. -/
theorem PortState.entries_count (x : PortState) (i : Fin 64) :
    (x.entries.filterMap OwnEntry.slot).count i =
      (x.ownQueue.filterMap OwnEntry.slot).count i + x.sending.elim 0 fun w => w.kind.counts i := by
  simp only [PortState.entries, List.filterMap_append, List.count_append]
  cases x.sending with
  | none => rfl
  | some w =>
    obtain ⟨kind, frame, wire⟩ := w
    cases kind with
    | bridged => rfl
    | own e => cases e <;> rfl

theorem State.slotCount_linkLost (s : State) (p : PortId) (i : Fin 64) :
    (s.linkLost p).slotCount i = s.slotCount i := by
  have set := s.slotCount_setPort p { s.port p with link := .down, sending := none, ownQueue := [], bridge := [] } i
  rw [PortState.entries_count, PortState.entries_count] at set
  unfold State.linkLost
  dsimp only
  rw [foldl_slotCount fun st _ => st.slotCount_bump _ i, State.slotCount_releaseAll]
  split
  next idle =>
    rw [idle] at set
    simp only [Option.elim, List.filterMap_nil, List.count_nil] at set
    omega
  next w sends =>
    rw [sends] at set
    simp only [Option.elim, List.filterMap_nil, List.count_nil] at set
    rw [State.slotCount_releaseAbandoned]
    omega

theorem State.slotCount_sent (s : State) {p : PortId} {w : Sending} (sends : (s.port p).sending = some w) (i : Fin 64) :
    ((s.setPort p { s.port p with sending := none }).releaseSent p w.kind).slotCount i = s.slotCount i := by
  have set := s.slotCount_setPort p { s.port p with sending := none } i
  rw [PortState.entries_count, PortState.entries_count, sends] at set
  simp only [Option.elim] at set
  rw [State.slotCount_releaseSent]
  dsimp only
  omega

/-- With every slot free and none held the law holds. -/
theorem State.cold_storeLaw (waiting : s.waiting = []) (lanes : s.lanes = Vector.replicate 4 none)
    (mgmt : s.mgmtWaiting = none) (free : s.freeSlots = List.finRange 64)
    (ports : ∀ p, (s.port p).entries.filterMap OwnEntry.slot = []) : s.StoreLaw := by
  refine s.storeLaw_iff.mpr ⟨State.cleared_jobsLaw waiting lanes mgmt, fun i => ?_⟩
  have jobs : s.jobSlots = [] := by
    rw [State.jobSlots, State.allJobs, State.jobs, waiting, lanes, mgmt]
    rfl
  have portT : s.portT.entries.filterMap OwnEntry.slot = [] := ports .T
  have portL : s.portL.entries.filterMap OwnEntry.slot = [] := ports .L
  simp only [State.slotCount, free, jobs, portT, portL, List.count_nil]
  exact List.count_eq_one_of_mem (List.nodup_finRange 64) (List.mem_finRange i)

theorem storeLaw_ends : ResponseEnds State.StoreLaw where
  linkLost {a p} law _ := law.of_count (fun h => h.of_work (by simp)) fun _ => a.slotCount_linkLost p
  sent {a p w} law sends := law.of_count (fun h => h.of_work (by simp)) fun _ i => by
    rw [State.slotCount_arbiter]
    exact a.slotCount_sent sends i
  sendResponse {a c} tag law _ := law.of_count (fun h => h.of_work (by simp)) fun _ i => by
    unfold State.sendResponse
    rw [State.slotCount_offerOwn]
    rfl
  loseWork _ := State.cold_storeLaw rfl rfl rfl rfl fun p => by cases p <;> rfl

theorem PortState.afterErase_slots (x : PortState) : x.afterErase.entries.filterMap OwnEntry.slot = [] := by
  have entries : x.afterErase.entries = x.entries.filter fun e => !e.namesSlot := by
    have sent := x.afterErase_sentEntries
    show _ ++ x.afterErase.sentEntries = (_ ++ x.sentEntries).filter _
    rw [sent, List.filter_append]
    rfl
  rw [entries, List.filterMap_eq_nil_iff]
  intro e held
  have other := (List.mem_filter.mp held).2
  cases e with
  | wrapped | forwarded => cases other
  | standIn | response | notice | arp => rfl

theorem storeLaw_keeps : Keeps State.StoreLaw where
  ordinary := storeLaw_ordinary
  items := storeLaw_items
  banks := storeLaw_banks
  ends := storeLaw_ends
  starts :=
    { warmStart := fun _ => State.cold_storeLaw rfl rfl rfl rfl fun p => by cases p <;> rfl
      coldStart := fun _ => State.cold_storeLaw rfl rfl rfl rfl fun p => by cases p <;> rfl
      eraseAll := fun {a} _ => storeLaw_ordinary.eraseAll
        (State.cold_storeLaw rfl rfl rfl rfl fun p => by cases p <;> exact PortState.afterErase_slots _)
        fun p kept => kept.of_count (fun h => h.of_work (by simp)) fun _ => State.slotCount_arbiter _ p }

end Sys2Proof.Machine
end

section
/-! R111, R120: the frame slots and the identities of the jobs. -/

open Sys2Proof Sys2Proof.Machine

/-- Settles O14: each operation hands a frame slot from one holder to the next, and a new job takes the next identity. -/
theorem frameSlotsKeepOneHolder : Obligations.FrameSlotsKeepOneHolder := fun _ _ law e => storeLaw_keeps.step law e
end

section
/-! SUPPORT. The references of the banks counted against any list of jobs that hold them (R57, R62, R63): the jobs of the
engine, or those with a job that has just completed. -/

namespace Sys2Proof.Machine

/-! ## Holders -/

/-- Whether a job holds a bank. -/
def Job.holds (j : Job) (k : Fin 16) (b : BankId) : Bool :=
  (j.work.wraps <|> j.work.verifies).any fun t => t.slot == k && t.bank == b

/-- Whether an exchange holds a bank. -/
def Exchange.holds (x : Exchange) (k : Fin 16) (b : BankId) : Bool := x.slot == k && x.bank == b

/-- The open exchanges that hold a bank. -/
def State.exchangesOn (s : State) (k : Fin 16) (b : BankId) : Nat :=
  s.tills.toList.countP fun e => e.exchange.any fun x => x.holds k b

/-- The jobs of a list that hold a bank. -/
def jobsOn (jobs : List Job) (k : Fin 16) (b : BankId) : Nat := jobs.countP fun j => j.holds k b

/-- Each open exchange's job is in the list and carries what the exchange captured (Table 5-1). -/
structure State.Names (s : State) (jobs : List Job) : Prop where
  wraps : ∀ (i : Fin 128) x, s.tills[i].exchange = some x → ∀ n, x.wrapJob = some n →
    ∃ j ∈ jobs, j.id = n ∧ ∃ f, j.work.wraps = some (s.carried i x f)
  verifies : ∀ (i : Fin 128) x, s.tills[i].exchange = some x → ∀ n, x.verifyJob = some n →
    ∃ j ∈ jobs, j.id = n ∧ ∃ f, j.work.verifies = some (s.carried i x f)

/-- The count of a bank fits its state: 0 while EMPTY or STAGED, at least 1 while DRAINING (R57). -/
structure KeyBank.Counted (b : KeyBank) : Prop where
  idle : b.state = .empty ∨ b.state = .staged → b.refs = 0
  draining : b.state = .draining → 1 ≤ b.refs

/-- R57 and Table 5-1 against a list of jobs. -/
structure State.Holds (s : State) (jobs : List Job) : Prop where
  refs : ∀ k b, (s.bank k b).refs = s.exchangesOn k b + jobsOn jobs k b
  counted : ∀ k b, (s.bank k b).Counted
  names : s.Names jobs

theorem jobsOn_perm {l m : List Job} (h : l.Perm m) (k : Fin 16) (b : BankId) : jobsOn l k b = jobsOn m k b :=
  h.countP_eq _

theorem jobsOn_cons (j : Job) (l : List Job) (k : Fin 16) (b : BankId) :
    jobsOn (j :: l) k b = jobsOn l k b + if j.holds k b then 1 else 0 := List.countP_cons ..

theorem State.Names.subset {s : State} {l m : List Job} (h : s.Names l)
    (sub : ∀ j ∈ l, (j.work.wraps.isSome ∨ j.work.verifies.isSome) → j ∈ m) : s.Names m := by
  refine ⟨fun i x open_ n named => ?_, fun i x open_ n named => ?_⟩
  · obtain ⟨j, held, id, f, target⟩ := h.wraps i x open_ n named
    exact ⟨j, sub j held (.inl (by simp [target])), id, f, target⟩
  · obtain ⟨j, held, id, f, target⟩ := h.verifies i x open_ n named
    exact ⟨j, sub j held (.inr (by simp [target])), id, f, target⟩

theorem State.Holds.perm {s : State} {l m : List Job} (h : s.Holds l) (perm : l.Perm m) : s.Holds m :=
  ⟨fun k b => by rw [h.refs, jobsOn_perm perm], h.counted, h.names.subset fun _ held _ => perm.mem_iff.mp held⟩

/-- A till entry counted after another has taken its place. -/
theorem countP_set (p : TillEntry → Bool) (v : Vector TillEntry 128) (i : Fin 128) (e : TillEntry) :
    (v.set i e).toList.countP p + (if p v[i] then 1 else 0) = v.toList.countP p + if p e then 1 else 0 := by
  have before := (List.getElem_cons_eraseIdx_perm (l := v.toList) (n := i.val) (by simp)).countP_eq p
  have after := (List.set_perm_cons_eraseIdx (l := v.toList) (n := i.val) (by simp) e).countP_eq p
  rw [Vector.toList_set, after, ← before, List.countP_cons, List.countP_cons]
  simp only [Vector.getElem_toList, Fin.getElem_fin]
  omega

/-- The exchanges on a bank after one entry's exchange is replaced. -/
theorem State.exchangesOn_set {s t : State} {i : Fin 128} {e : TillEntry} (h : t.tills = s.tills.set i e)
    (k : Fin 16) (b : BankId) :
    t.exchangesOn k b + (if s.tills[i].exchange.any fun x => x.holds k b then 1 else 0) =
      s.exchangesOn k b + if e.exchange.any fun x => x.holds k b then 1 else 0 := by
  unfold State.exchangesOn
  rw [h]
  exact countP_set _ _ _ _

/-! ## Changes of tills and banks -/

/-- Exchanges and till numbers that have not moved. -/
theorem State.Names.of_tills {a b : State} {jobs : List Job} (h : a.Names jobs)
    (exchange : ∀ i : Fin 128, b.tills[i].exchange = a.tills[i].exchange)
    (number : ∀ i : Fin 128, b.tills[i].exchange ≠ none → b.tills[i].number = a.tills[i].number) : b.Names jobs := by
  have carried : ∀ i x f, b.tills[i].exchange = some x → b.carried i x f = a.carried i x f := fun i x f open_ => by
    unfold State.carried
    rw [number i (by rw [open_]; nofun)]
  refine ⟨fun i x open_ n named => ?_, fun i x open_ n named => ?_⟩
  · obtain ⟨j, held, id, f, target⟩ := h.wraps i x (exchange i ▸ open_) n named
    exact ⟨j, held, id, f, carried i x f open_ ▸ target⟩
  · obtain ⟨j, held, id, f, target⟩ := h.verifies i x (exchange i ▸ open_) n named
    exact ⟨j, held, id, f, carried i x f open_ ▸ target⟩

theorem State.exchangesOn_congr {a b : State} (exchange : ∀ i : Fin 128, b.tills[i].exchange = a.tills[i].exchange)
    (k : Fin 16) (c : BankId) : b.exchangesOn k c = a.exchangesOn k c := by
  have same := tills_exchange_eq_iff.mpr exchange
  have lists := congrArg Vector.toList same
  simp only [Vector.toList_map] at lists
  have counts : ∀ v : Vector TillEntry 128, (v.toList.countP fun e => e.exchange.any fun x => x.holds k c) =
      (v.toList.map TillEntry.exchange).countP fun x => x.any fun x => x.holds k c := fun v => by
    rw [List.countP_map]
    rfl
  rw [State.exchangesOn, State.exchangesOn, counts, counts, lists]

theorem State.Holds.of_tills {a b : State} {jobs : List Job} (h : a.Holds jobs) (slots : b.slots = a.slots)
    (exchange : ∀ i : Fin 128, b.tills[i].exchange = a.tills[i].exchange)
    (number : ∀ i : Fin 128, b.tills[i].exchange ≠ none → b.tills[i].number = a.tills[i].number) : b.Holds jobs := by
  have banks : ∀ k c, b.bank k c = a.bank k c := fun k c => by simp only [State.bank, slots]
  refine ⟨fun k c => ?_, fun k c => ?_, h.names.of_tills exchange number⟩
  · rw [banks, h.refs, State.exchangesOn_congr exchange]
  · rw [banks]
    exact h.counted k c

/-- Banks changed, their counts and their fitting states kept. -/
theorem State.Holds.of_banks {a b : State} {jobs : List Job} (h : a.Holds jobs) (tills : b.tills = a.tills)
    (banks : ∀ k c, (b.bank k c).refs = (a.bank k c).refs ∧ (b.bank k c).Counted) : b.Holds jobs := by
  refine ⟨fun k c => ?_, fun k c => (banks k c).2, h.names.of_tills (fun i => by rw [tills]) fun i _ => by rw [tills]⟩
  rw [(banks k c).1, h.refs, State.exchangesOn_congr fun i => by rw [tills]]

theorem KeyBank.Counted.release {b : KeyBank} (h : b.Counted) (n : Nat) : (b.release n).Counted := by
  refine ⟨fun idle => ?_, fun draining => ?_⟩
  · rcases b.release_cases n with same | ⟨_, none, cleared⟩
    · rw [same] at idle ⊢
      have zero := h.idle idle
      show b.refs - n = 0
      omega
    · rw [cleared]
      rfl
  · rw [KeyBank.release_refs]
    exact b.release_draining n draining

/-- References released together with the holders that had them (R63). -/
theorem State.Holds.release {s u : State} {jobs left : List Job} (h : s.Holds jobs) (slots : u.slots = s.slots)
    {k : Fin 16} {b : BankId} {n : Nat}
    (count : ∀ i c, u.exchangesOn i c + jobsOn left i c + (if k = i ∧ b = c then n else 0) =
      s.exchangesOn i c + jobsOn jobs i c)
    (names : u.Names left) : (u.releaseRefs k b n).Holds left := by
  have banks : ∀ i c, u.bank i c = s.bank i c := fun i c => by simp only [State.bank, slots]
  have bank : ∀ i c, (u.releaseRefs k b n).bank i c = if k = i ∧ b = c then (s.bank i c).release n else s.bank i c :=
    fun i c => by
      unfold State.releaseRefs
      rw [State.setBank_bank, banks, banks]
      split
      next same => obtain ⟨rfl, rfl⟩ := same; rfl
      · rfl
  refine ⟨fun i c => ?_, fun i c => ?_, ⟨names.wraps, names.verifies⟩⟩
  · have total := count i c
    rw [← h.refs] at total
    have same : (u.releaseRefs k b n).exchangesOn i c = u.exchangesOn i c := rfl
    rw [bank, same]
    split
    next named =>
      rw [if_pos named] at total
      rw [KeyBank.release_refs]
      omega
    next named =>
      rw [if_neg named] at total
      omega
  · rw [bank]
    split
    · exact (h.counted i c).release n
    · exact h.counted i c

/-- References taken together with the holders that have them, on a bank in use (R62). -/
theorem State.Holds.take {s u : State} {jobs left : List Job} (h : s.Holds jobs) {k : Fin 16} {b : BankId} {n : Nat}
    (count : ∀ i c, u.exchangesOn i c + jobsOn left i c =
      s.exchangesOn i c + jobsOn jobs i c + if k = i ∧ b = c then n else 0)
    (used : (s.bank k b).state ≠ .empty ∧ (s.bank k b).state ≠ .staged)
    (refs : ∀ i c, (u.bank i c).refs = (s.bank i c).refs + if k = i ∧ b = c then n else 0)
    (state : ∀ i c, (u.bank i c).state = (s.bank i c).state) (names : u.Names left) : u.Holds left := by
  refine ⟨fun i c => ?_, fun i c => ⟨fun idle => ?_, fun draining => ?_⟩, names⟩
  · rw [refs, h.refs, count]
  · rw [state] at idle
    rw [refs, (h.counted i c).idle idle]
    split
    next named =>
      obtain ⟨rfl, rfl⟩ := named
      rcases idle with empty | staged
      · exact absurd empty used.1
      · exact absurd staged used.2
    · rfl
  · rw [state] at draining
    rw [refs]
    have some := (h.counted i c).draining draining
    omega

/-- A bank that an exchange captured is in use. -/
theorem State.Holds.used {s : State} {jobs : List Job} (h : s.Holds jobs) {i : Fin 128} {x : Exchange}
    (open_ : s.tills[i].exchange = some x) :
    (s.bank x.slot x.bank).state ≠ .empty ∧ (s.bank x.slot x.bank).state ≠ .staged := by
  have some : 1 ≤ s.exchangesOn x.slot x.bank := by
    refine List.countP_pos_iff.mpr ⟨s.tills[i], ?_, by rw [open_]; simp [Exchange.holds]⟩
    simp
  have refs := h.refs x.slot x.bank
  constructor <;> intro idle
  · have zero := (h.counted x.slot x.bank).idle (.inl idle)
    omega
  · have zero := (h.counted x.slot x.bank).idle (.inr idle)
    omega

end Sys2Proof.Machine
end

section
/-! SUPPORT. The references over the life of an exchange (R92, R94, R96, R100, R103, R107). -/

namespace Sys2Proof.Machine

variable {s : State} {jobs left : List Job}

/-! ## The job of an exchange -/

theorem JobWork.carries_of_frame {w : JobWork} (own : w.frame = none) : w.wraps = none ∧ w.verifies = none := by
  cases w with
  | wrap | verify => cases own
  | mgmtTag | keyUnwrap | responseTag => exact ⟨rfl, rfl⟩

theorem Job.holds_of_frame {j : Job} (own : j.work.frame = none) (k : Fin 16) (b : BankId) : j.holds k b = false := by
  obtain ⟨wraps, verifies⟩ := JobWork.carries_of_frame own
  simp [Job.holds, wraps, verifies]

/-- What a job carries, whichever kind of payment job it is. -/
def Job.Carries (j : Job) (t : JobTarget) : Prop := j.work.wraps = some t ∨ j.work.verifies = some t

theorem Job.Carries.unique {j : Job} {t u : JobTarget} (h : j.Carries t) (k : j.Carries u) : t = u := by
  obtain ⟨id, work⟩ := j
  cases work <;> simp_all [Job.Carries, JobWork.wraps, JobWork.verifies]

theorem Job.Carries.holds {j : Job} {t : JobTarget} (h : j.Carries t) (k : Fin 16) (b : BankId) :
    j.holds k b = (t.slot == k && t.bank == b) := by
  obtain ⟨id, work⟩ := j
  cases work <;> rcases h with h | h <;> cases h <;> rfl

/-- The exchange `x` of till `i` names the job `j`, in either of its two places (Table 5-2). -/
def Exchange.Names (x : Exchange) (n : Nat) : Prop := x.wrapJob = some n ∨ x.verifyJob = some n

theorem Exchange.names_of_job {x : Exchange} {n : Nat} (h : x.job = some n) : x.Names n := by
  unfold Exchange.job at h
  cases wrap : x.wrapJob with
  | some m =>
    rw [wrap] at h
    exact .inl (wrap.trans h)
  | none =>
    rw [wrap] at h
    exact .inr h

/-- A formed exchange that names a job in either place has it as its job. -/
theorem Exchange.Formed.job {x : Exchange} (formed : x.Formed) {n : Nat} (names : x.Names n) : x.job = some n := by
  obtain ⟨wrap, verify, _⟩ := formed
  unfold Exchange.job
  rcases names with named | named
  · rw [named]
    rfl
  · have verifying := verify.mp (by simp [named])
    have none : x.wrapJob = none := by
      cases present : x.wrapJob with
      | none => rfl
      | some m =>
        have admitted := wrap.mp (by simp [present])
        exact absurd (verifying.symm.trans admitted) (by decide)
    rw [none]
    exact named

/-- The identities of the jobs of a list. -/
abbrev Distinct (jobs : List Job) : Prop := (jobs.map Job.id).Nodup

theorem Distinct.unique (ids : Distinct jobs) {j k : Job} (hj : j ∈ jobs) (hk : k ∈ jobs) (same : j.id = k.id) :
    j = k := List.inj_on_of_nodup_map ids hj hk same

/-- The job that an exchange names carries what the exchange captured. -/
theorem State.Names.carries (h : s.Names jobs) (ids : Distinct jobs) {i : Fin 128} {x : Exchange}
    (open_ : s.tills[i].exchange = some x) {j : Job} (member : j ∈ jobs) (named : x.Names j.id) :
    ∃ f, j.Carries (s.carried i x f) := by
  rcases named with named | named
  · obtain ⟨k, held, id, f, target⟩ := h.wraps i x open_ j.id named
    exact ⟨f, .inl (ids.unique held member id ▸ target)⟩
  · obtain ⟨k, held, id, f, target⟩ := h.verifies i x open_ j.id named
    exact ⟨f, .inr (ids.unique held member id ▸ target)⟩

/-- After the job `j` has left, the exchanges that do not name it still have their jobs. -/
theorem State.Names.without (h : s.Names jobs) {j : Job} (perm : jobs.Perm (j :: left)) {u : State}
    (exchange : ∀ (i : Fin 128) x, u.tills[i].exchange = some x →
      (s.tills[i].exchange = some x ∧ u.tills[i].number = s.tills[i].number ∧ ¬ x.Names j.id) ∨
        (x.wrapJob = none ∧ x.verifyJob = none)) : u.Names left := by
  have stays : ∀ k ∈ jobs, k.id ≠ j.id → k ∈ left := fun k held other =>
    (List.mem_cons.mp (perm.mem_iff.mp held)).resolve_left fun same => other (same ▸ rfl)
  refine ⟨fun i x open_ n named => ?_, fun i x open_ n named => ?_⟩
  · rcases exchange i x open_ with ⟨before, number, others⟩ | ⟨wrap, _⟩
    · obtain ⟨k, held, id, f, target⟩ := h.wraps i x before n named
      refine ⟨k, stays k held fun same => others (.inl (named.trans (by rw [← id, same]))), id, f, ?_⟩
      rw [target, State.carried, State.carried, number]
    · cases wrap.symm.trans named
  · rcases exchange i x open_ with ⟨before, number, others⟩ | ⟨_, verify⟩
    · obtain ⟨k, held, id, f, target⟩ := h.verifies i x before n named
      refine ⟨k, stays k held fun same => others (.inr (named.trans (by rw [← id, same]))), id, f, ?_⟩
      rw [target, State.carried, State.carried, number]
    · cases verify.symm.trans named

theorem State.setExchange_entry (s : State) (i j : Fin 128) (x : Option Exchange) :
    (s.setExchange i x).tills[j] = if i = j then { s.tills[i] with exchange := x } else s.tills[j] := getElem_set_fin ..

theorem State.setExchange_number (s : State) (i j : Fin 128) (x : Option Exchange) :
    (s.setExchange i x).tills[j].number = s.tills[j].number := by
  rw [State.setExchange_entry]
  split
  next same => subst same; rfl
  · rfl

/-- The exchanges on a bank after one is replaced. -/
theorem State.exchangesOn_setExchange (s : State) (i : Fin 128) (y : Option Exchange) (k : Fin 16) (b : BankId) :
    (s.setExchange i y).exchangesOn k b + (if s.tills[i].exchange.any fun x => x.holds k b then 1 else 0) =
      s.exchangesOn k b + if y.any fun x => x.holds k b then 1 else 0 :=
  State.exchangesOn_set (e := { s.tills[i] with exchange := y }) rfl k b

theorem holds_iff {k l : Fin 16} {b c : BankId} : (k == l && b == c) = true ↔ k = l ∧ b = c := by
  simp

/-! ## A job ends -/

/-- The exchanges of a list of jobs have one job per identity, so only one exchange names a job (R111). -/
theorem State.Names.one_exchange (h : s.Names jobs) (ids : Distinct jobs) {i k : Fin 128} {x y : Exchange}
    (open_ : s.tills[i].exchange = some x) (other : s.tills[k].exchange = some y) {j : Job} (member : j ∈ jobs)
    (first : x.Names j.id) (second : y.Names j.id) : i = k := by
  obtain ⟨f, carries⟩ := h.carries ids open_ member first
  obtain ⟨g, carries'⟩ := h.carries ids other member second
  exact congrArg JobTarget.till (carries.unique carries')

/-- An exchange closes together with its job (R103, R107): the references of both are released. -/
theorem State.Holds.closeWithJob (h : s.Holds jobs) (ids : Distinct jobs) {i : Fin 128} {x : Exchange}
    (open_ : s.tills[i].exchange = some x) {j : Job} (named : x.Names j.id) (perm : jobs.Perm (j :: left)) :
    ((s.setExchange i none).releaseRefs x.slot x.bank 2).Holds left := by
  have member : j ∈ jobs := perm.mem_iff.mpr (by simp)
  obtain ⟨f, carries⟩ := h.names.carries ids open_ member named
  refine h.release (by rfl) (fun k b => ?_) (h.names.without perm fun k y opened => ?_)
  · have exchanges := s.exchangesOn_setExchange i none k b
    rw [open_] at exchanges
    rw [jobsOn_perm perm, jobsOn_cons, carries.holds]
    simp only [Option.any_some, Option.any_none, Exchange.holds, holds_iff, State.carried, Bool.false_eq_true, if_false]
      at exchanges ⊢
    by_cases held : x.slot = k ∧ x.bank = b
    · simp only [if_pos held] at exchanges ⊢
      omega
    · simp only [if_neg held] at exchanges ⊢
      omega
  · rw [State.setExchange_entry] at opened
    split at opened
    · cases opened
    next other =>
      exact .inl ⟨opened, State.setExchange_number .., fun again =>
        other (h.names.one_exchange ids open_ opened member named again)⟩

/-- An exchange closes and its job, if it has one, goes on without it (R107). -/
theorem State.Holds.close (h : s.Holds jobs) {i : Fin 128} {x : Exchange} (open_ : s.tills[i].exchange = some x) :
    ((s.setExchange i none).releaseRefs x.slot x.bank 1).Holds jobs := by
  refine h.release (by rfl) (fun k b => ?_) ?_
  · have exchanges := s.exchangesOn_setExchange i none k b
    rw [open_] at exchanges
    simp only [Option.any_some, Option.any_none, Exchange.holds, holds_iff, Bool.false_eq_true, if_false] at exchanges
    omega
  · have still : ∀ (k : Fin 128) y, (s.setExchange i none).tills[k].exchange = some y → s.tills[k].exchange = some y :=
      fun k y opened => by
        rw [State.setExchange_entry] at opened
        split at opened
        · cases opened
        · exact opened
    refine ⟨fun k y opened n named => ?_, fun k y opened n named => ?_⟩
    · obtain ⟨j, held, id, f, target⟩ := h.names.wraps k y (still k y opened) n named
      exact ⟨j, held, id, f, by rw [target, State.carried, State.carried, State.setExchange_number]⟩
    · obtain ⟨j, held, id, f, target⟩ := h.names.verifies k y (still k y opened) n named
      exact ⟨j, held, id, f, by rw [target, State.carried, State.carried, State.setExchange_number]⟩

/-- An exchange whose job has ended waits for a reply, and the job's reference is released (R94, R103). -/
theorem State.Holds.await (h : s.Holds jobs) (ids : Distinct jobs) {i : Fin 128} {x y : Exchange} (formed : x.Formed)
    (open_ : s.tills[i].exchange = some x) (awaits : x.Awaits y) {j : Job} (named : x.Names j.id)
    (perm : jobs.Perm (j :: left)) :
    ((s.setExchange i (some y)).releaseRefs x.slot x.bank 1).Holds left := by
  have member : j ∈ jobs := perm.mem_iff.mpr (by simp)
  obtain ⟨f, carries⟩ := h.names.carries ids open_ member named
  have bank : y.slot = x.slot ∧ y.bank = x.bank := by
    rcases awaits with ⟨_, rfl⟩ | ⟨_, rfl⟩ <;> exact ⟨rfl, rfl⟩
  have no_job : y.wrapJob = none ∧ y.verifyJob = none := by
    have phase : y.phase = .awaiting := by rcases awaits with ⟨_, rfl⟩ | ⟨_, rfl⟩ <;> rfl
    obtain ⟨wrap, verify, _⟩ := awaits.formed formed
    rw [phase] at wrap verify
    exact ⟨by simpa using wrap, by simpa using verify⟩
  refine h.release (by rfl) (fun k b => ?_) (h.names.without perm fun k z opened => ?_)
  · have exchanges := s.exchangesOn_setExchange i (some y) k b
    rw [open_] at exchanges
    rw [jobsOn_perm perm, jobsOn_cons, carries.holds]
    simp only [Option.any_some, Exchange.holds, holds_iff, State.carried, bank.1, bank.2] at exchanges ⊢
    omega
  · rw [State.setExchange_entry] at opened
    split at opened
    · cases opened
      exact .inr no_job
    next other =>
      exact .inl ⟨opened, State.setExchange_number .., fun again =>
        other (h.names.one_exchange ids open_ opened member named again)⟩

/-- A job that no exchange names ends, and its reference is released (R96, R102). -/
theorem State.Holds.discard (h : s.Holds jobs) (ids : Distinct jobs) {j : Job} {t : JobTarget} (carries : j.Carries t)
    (detached : ∀ x, s.tills[t.till].exchange = some x → ¬ x.Names j.id) (perm : jobs.Perm (j :: left)) :
    (s.releaseRefs t.slot t.bank 1).Holds left := by
  have member : j ∈ jobs := perm.mem_iff.mpr (by simp)
  refine h.release (by rfl) (fun k b => ?_) (h.names.without perm fun k y opened => .inl ⟨opened, rfl, fun named => ?_⟩)
  · rw [jobsOn_perm perm, jobsOn_cons, carries.holds]
    simp only [holds_iff]
    omega
  · obtain ⟨f, carries'⟩ := h.names.carries ids opened member named
    have till : t.till = k := congrArg JobTarget.till (carries.unique carries')
    exact detached y (till ▸ opened) named

/-! ## A job begins -/

/-- A new job joins, and the exchange of one till, which had the number, is the only one that may name it. -/
theorem State.Names.with {u : State} (h : s.Names jobs) {j : Job}
    (exchange : ∀ (i : Fin 128) x, u.tills[i].exchange = some x →
      u.tills[i].number = s.tills[i].number ∧
        ((∃ y, s.tills[i].exchange = some y ∧ y.slot = x.slot ∧ y.bank = x.bank ∧ y.generation = x.generation ∧
            y.counter = x.counter ∧ (x.wrapJob = none ∨ x.wrapJob = y.wrapJob) ∧
            (x.verifyJob = y.verifyJob ∨ x.verifyJob = some j.id ∧ ∃ f, j.work.verifies = some (u.carried i x f))) ∨
          (x.wrapJob = some j.id ∧ x.verifyJob = none ∧ ∃ f, j.work.wraps = some (u.carried i x f)))) :
    u.Names (j :: jobs) := by
  refine ⟨fun i x open_ n named => ?_, fun i x open_ n named => ?_⟩
  · obtain ⟨number, ⟨y, before, slot, bank, generation, counter, wrap, _⟩ | ⟨wrap, _, f, target⟩⟩ := exchange i x open_
    · rcases wrap with none | same
      · cases none.symm.trans named
      · obtain ⟨k, held, id, f, target⟩ := h.wraps i y before n (same ▸ named)
        refine ⟨k, List.mem_cons_of_mem _ held, id, f, ?_⟩
        rw [target, State.carried, State.carried, number, slot, bank, generation, counter]
    · exact ⟨j, by simp, Option.some.inj (wrap.symm.trans named), f, target⟩
  · obtain ⟨number, ⟨y, before, slot, bank, generation, counter, _, verify⟩ | ⟨_, verify, _⟩⟩ := exchange i x open_
    · rcases verify with same | ⟨new, f, target⟩
      · obtain ⟨k, held, id, f, target⟩ := h.verifies i y before n (same ▸ named)
        refine ⟨k, List.mem_cons_of_mem _ held, id, f, ?_⟩
        rw [target, State.carried, State.carried, number, slot, bank, generation, counter]
      · exact ⟨j, by simp, Option.some.inj (new.symm.trans named), f, target⟩
    · cases verify.symm.trans named

end Sys2Proof.Machine
end

section
/-! SUPPORT. The references under every operation (R57, R62, R63). -/

namespace Sys2Proof.Machine

variable {s : State} {jobs left : List Job}

/-! ## The law in these words -/

theorem State.jobsOf_eq (s : State) {waits : JobWork → Option JobTarget} {runs : Running → Option JobTarget}
    (same : ∀ r : Running, waits r.job.work = runs r) :
    s.jobsOf waits runs = s.jobs.filterMap fun j => (waits j.work).map fun t => (j.id, t) := by
  have lanes : (s.lanes.toList.filterMap fun r => r.bind fun r => (runs r).map fun t => (r.id, t)) =
      (laneJobs s.lanes).filterMap fun j => (waits j.work).map fun t => (j.id, t) := by
    rw [laneJobs, List.filterMap_filterMap]
    congr 1
    funext r
    cases r <;> simp [same]
  rw [State.jobsOf, lanes, State.jobs, List.filterMap_append]

theorem State.wrapJobs_eq (s : State) :
    s.wrapJobs = s.jobs.filterMap fun j => j.work.wraps.map fun t => (j.id, t) := s.jobsOf_eq Running.job_wraps

theorem State.verifyJobs_eq (s : State) :
    s.verifyJobs = s.jobs.filterMap fun j => j.work.verifies.map fun t => (j.id, t) := s.jobsOf_eq Running.job_verifies

/-- The payment jobs on a bank, by kind. -/
theorem jobsOn_eq (jobs : List Job) (k : Fin 16) (b : BankId) :
    ((jobs.filterMap fun j => j.work.wraps.map fun t => (j.id, t)) ++
        jobs.filterMap fun j => j.work.verifies.map fun t => (j.id, t)).countP (fun j => j.2.slot == k && j.2.bank == b) =
      jobsOn jobs k b := by
  rw [List.countP_append]
  induction jobs with
  | nil => rfl
  | cons j jobs ih =>
    obtain ⟨id, work⟩ := j
    rw [jobsOn_cons, ← ih]
    cases work <;> simp [JobWork.wraps, JobWork.verifies, Job.holds, List.countP_cons] <;> omega

/-- The job that waits in MGU holds no bank (R113). -/
theorem State.jobsOn_allJobs (own : ∀ j ∈ s.mgmtWaiting, j.work.frame = none) (k : Fin 16) (b : BankId) :
    jobsOn s.allJobs k b = jobsOn s.jobs k b := by
  have mgmt : jobsOn s.mgmtWaiting.toList k b = 0 := by
    cases waits : s.mgmtWaiting with
    | none => rfl
    | some j => simp [jobsOn, Job.holds_of_frame (own j waits)]
  unfold jobsOn at mgmt ⊢
  rw [State.allJobs, List.countP_append, mgmt, Nat.add_zero]

theorem State.holders_eq (own : ∀ j ∈ s.mgmtWaiting, j.work.frame = none) (k : Fin 16) (b : BankId) :
    s.holders k b = s.exchangesOn k b + jobsOn s.allJobs k b := by
  rw [State.holders, State.wrapJobs_eq, State.verifyJobs_eq, jobsOn_eq, State.jobsOn_allJobs own]
  rfl

theorem State.mem_allJobs_of_carries (own : ∀ j ∈ s.mgmtWaiting, j.work.frame = none) {j : Job}
    (carries : j.work.wraps.isSome ∨ j.work.verifies.isSome) : j ∈ s.allJobs ↔ j ∈ s.jobs := by
  have mgmt : j ∉ s.mgmtWaiting.toList := fun waits => by
    obtain ⟨wraps, verifies⟩ := JobWork.carries_of_frame (own j (by simpa using waits))
    simp [wraps, verifies] at carries
  simp only [State.allJobs, List.mem_append, mgmt, or_false]

/-- The references counted, the jobs named, and the laws that identify the jobs and form the exchanges. -/
structure State.Accounted (s : State) : Prop where
  holds : s.Holds s.allJobs
  jobs : s.JobsLaw
  exchanges : s.ExchangeLaw

theorem State.refLaw_iff (own : ∀ j ∈ s.mgmtWaiting, j.work.frame = none) : s.RefLaw ↔ s.Holds s.allJobs := by
  have wraps : ∀ (n : Nat) (t : JobTarget), (n, t) ∈ s.wrapJobs ↔ ∃ j ∈ s.allJobs, j.id = n ∧ j.work.wraps = some t := by
    intro n t
    rw [State.wrapJobs_eq]
    simp only [List.mem_filterMap, Option.map_eq_some_iff, Prod.mk.injEq]
    constructor
    · rintro ⟨j, held, u, target, id, rfl⟩
      exact ⟨j, (State.mem_allJobs_of_carries own (.inl (by simp [target]))).mpr held, id, target⟩
    · rintro ⟨j, held, id, target⟩
      exact ⟨j, (State.mem_allJobs_of_carries own (.inl (by simp [target]))).mp held, t, target, id, rfl⟩
  have verifies : ∀ (n : Nat) (t : JobTarget),
      (n, t) ∈ s.verifyJobs ↔ ∃ j ∈ s.allJobs, j.id = n ∧ j.work.verifies = some t := by
    intro n t
    rw [State.verifyJobs_eq]
    simp only [List.mem_filterMap, Option.map_eq_some_iff, Prod.mk.injEq]
    constructor
    · rintro ⟨j, held, u, target, id, rfl⟩
      exact ⟨j, (State.mem_allJobs_of_carries own (.inr (by simp [target]))).mpr held, id, target⟩
    · rintro ⟨j, held, id, target⟩
      exact ⟨j, (State.mem_allJobs_of_carries own (.inr (by simp [target]))).mp held, t, target, id, rfl⟩
  constructor
  · rintro ⟨banks, named⟩
    refine ⟨fun k b => ?_, fun k b => ⟨(banks k b).2.1, (banks k b).2.2⟩, ⟨fun i x open_ n job => ?_,
      fun i x open_ n job => ?_⟩⟩
    · rw [← State.holders_eq own]
      exact (banks k b).1
    · obtain ⟨f, held⟩ := (named i x open_).1 n job
      obtain ⟨j, member, id, target⟩ := (wraps _ _).mp held
      exact ⟨j, member, id, f, target⟩
    · obtain ⟨f, held⟩ := (named i x open_).2 n job
      obtain ⟨j, member, id, target⟩ := (verifies _ _).mp held
      exact ⟨j, member, id, f, target⟩
  · rintro ⟨refs, counted, named⟩
    refine ⟨fun k b => ⟨?_, (counted k b).idle, (counted k b).draining⟩, fun i x open_ =>
      ⟨fun n job => ?_, fun n job => ?_⟩⟩
    · rw [State.holders_eq own]
      exact refs k b
    · obtain ⟨j, member, id, f, target⟩ := named.wraps i x open_ n job
      exact ⟨f, (wraps _ _).mpr ⟨j, member, id, target⟩⟩
    · obtain ⟨j, member, id, f, target⟩ := named.verifies i x open_ n job
      exact ⟨f, (verifies _ _).mpr ⟨j, member, id, target⟩⟩

/-! ## What leaves the references -/

theorem State.Holds.same {a b : State} (h : a.Holds jobs) (work : b.work = a.work) (items : b.byItems = a.byItems) :
    b.Holds jobs := by
  obtain ⟨_, _, _, _, slots, exchange⟩ := State.work_eq_iff.mp work
  refine h.of_tills slots exchange fun i _ => ?_
  have written := (State.tables_eq_iff.mp (State.tables_of_byItems items)).2.2.2.2.2 i
  exact (TillEntry.written_eq_iff.mp written).2.1

theorem State.Accounted.same {a b : State} (h : a.Accounted) (work : b.work = a.work) (items : b.byItems = a.byItems) :
    b.Accounted :=
  ⟨State.allJobs_of_work work ▸ h.holds.same work items, h.jobs.of_work work, h.exchanges.of_work work⟩

/-- The jobs moved among themselves, or changed in those that hold no bank. -/
theorem State.Holds.of_jobs (h : s.Holds jobs) (count : ∀ k b, jobsOn left k b = jobsOn jobs k b)
    (sub : ∀ j ∈ jobs, j.work.wraps.isSome ∨ j.work.verifies.isSome → j ∈ left) : s.Holds left :=
  ⟨fun k b => by rw [h.refs, count], h.counted, h.names.subset sub⟩

theorem State.Holds.cons_own (h : s.Holds jobs) {j : Job} (own : j.work.frame = none) : s.Holds (j :: jobs) :=
  h.of_jobs (fun k b => by rw [jobsOn_cons, Job.holds_of_frame own]; rfl) fun _ held _ => List.mem_cons_of_mem _ held

theorem State.Holds.offerMgmt (h : s.Holds s.allJobs) (law : s.JobsLaw) {w : JobWork} (own : w.frame = none) :
    (s.offerMgmt w).Holds (s.offerMgmt w).allJobs := by
  obtain ⟨q, v, m, shape⟩ := s.offerMgmt_shape w
  obtain ⟨kept, perm, which⟩ := s.offerMgmt_allJobs w
  have kept_holds : s.Holds kept := by
    rcases which with rfl | rfl
    · exact h
    · exact h.of_jobs (fun k b => (State.jobsOn_allJobs law.own k b).symm) fun j held carries =>
        (State.mem_allJobs_of_carries law.own carries).mp held
  refine State.Holds.perm ?_ perm.symm
  exact State.Holds.of_tills (kept_holds.cons_own own) (by rw [shape]) (fun i => by rw [shape]) fun i _ => by rw [shape]

/-- A completed job beside the jobs of the engine that it has left (R116). -/
theorem State.Accounted.finish (h : s.Accounted) {l : Fin 4} {r : Running} (runs : s.lanes[l] = some r) :
    (s.finishLane l).Holds (r.job :: (s.finishLane l).allJobs) ∧ Distinct (r.job :: (s.finishLane l).allJobs) := by
  have perm := State.finishLane_allJobs runs
  obtain ⟨w, v, m, shape⟩ := s.finishLane_shape l
  refine ⟨?_, (perm.map Job.id).nodup_iff.mpr h.jobs.ids⟩
  exact State.Holds.of_tills (h.holds.perm perm.symm) (by rw [shape]) (fun i => by rw [shape]) fun i _ => by rw [shape]

/-! ## Closing -/

/-- A close outside a completion keeps the count (R107). -/
theorem State.Accounted.close (h : s.Accounted) (i : Fin 128) : (s.closeExchange i 0).Accounted := by
  refine ⟨?_, jobsLaw_workSteps.close i 0 h.jobs, exchangeLaw_workSteps.close i 0 h.exchanges⟩
  rcases s.closeExchange_cases i 0 with ⟨_, r⟩ | ⟨x, open_, _, r⟩ | ⟨x, j, open_, waits, named, r⟩ <;> rw [r]
  · exact h.holds
  · exact h.holds.close open_
  · have closed : (s.setExchange i none).JobsLaw := ⟨h.jobs.ids, h.jobs.fresh, h.jobs.own⟩
    have holds := h.holds.closeWithJob h.jobs.ids open_ (Exchange.names_of_job named) (closed.removeJob_allJobs waits)
    have entered := State.admitWaiting_allJobs (((s.setExchange i none).removeJob j).releaseRefs x.slot x.bank 2)
    obtain ⟨w, v, m, shape⟩ := State.admitWaiting_shape (((s.setExchange i none).removeJob j).releaseRefs x.slot x.bank 2)
    obtain ⟨fr, fs, removed⟩ := (s.setExchange i none).removeJob_shape j
    have tills : ((((s.setExchange i none).removeJob j).releaseRefs x.slot x.bank 2).admitWaiting).tills =
        (s.setExchange i none).tills := by
      rw [shape, removed]
      rfl
    refine State.Holds.perm ?_ entered.symm
    refine holds.of_tills ?_ (fun k => by rw [tills]; rfl) fun k _ => by rw [tills]; rfl
    rw [State.admitWaiting_slots, removed]
    rfl

/-- A close that is that of the exchange's completing job, which has left the engine (R103, R107). -/
theorem State.Holds.closeDone {j : Job} (h : s.Holds (j :: s.allJobs)) (ids : Distinct (j :: s.allJobs)) {i : Fin 128}
    {x : Exchange} (open_ : s.tills[i].exchange = some x) (named : x.job = some j.id) :
    (s.closeExchange i 1).Holds (s.closeExchange i 1).allJobs := by
  rcases s.closeExchange_cases i 1 with ⟨closed, _⟩ | ⟨y, opened, _, r⟩ | ⟨y, k, opened, waits, again, _⟩
  · cases closed.symm.trans open_
  · cases opened.symm.trans open_
    rw [r]
    exact h.closeWithJob ids open_ (Exchange.names_of_job named) (.refl _)
  · cases opened.symm.trans open_
    have held : j.id ∈ s.allJobs.map Job.id := by
      rw [Option.some.inj (named.symm.trans again)]
      exact List.mem_map_of_mem (State.mem_allJobs_of_waiting waits)
    exact absurd held (List.nodup_cons.mp ids).1

/-! ## Records that differ in nothing a job carries -/

/-- The exchange records differ in their clocks and marks alone (R85, R105). -/
theorem State.Holds.of_records {a b : State} (h : a.Holds jobs) (slots : b.slots = a.slots)
    (same : ∀ i : Fin 128, b.tills[i].number = a.tills[i].number ∧
      (b.tills[i].exchange.map fun x => (x.slot, x.bank, x.generation, x.counter, x.wrapJob, x.verifyJob)) =
        a.tills[i].exchange.map fun x => (x.slot, x.bank, x.generation, x.counter, x.wrapJob, x.verifyJob)) :
    b.Holds jobs := by
  have record : ∀ (i : Fin 128) x, b.tills[i].exchange = some x → ∃ y, a.tills[i].exchange = some y ∧
      y.wrapJob = x.wrapJob ∧ y.verifyJob = x.verifyJob ∧ ∀ f, a.carried i y f = b.carried i x f := by
    intro i x open_
    have fields := (same i).2
    rw [open_] at fields
    obtain ⟨y, was, fields⟩ := Option.map_eq_some_iff.mp fields.symm
    simp only [Prod.mk.injEq] at fields
    obtain ⟨slot, bank, generation, counter, wrap, verify⟩ := fields
    exact ⟨y, was, wrap, verify, fun f => by
      rw [State.carried, State.carried, slot, bank, generation, counter, (same i).1]⟩
  have counts : ∀ k c, b.exchangesOn k c = a.exchangesOn k c := fun k c => by
    have each : ∀ v : Vector TillEntry 128, (v.toList.countP fun e => e.exchange.any fun x => x.holds k c) =
        (v.map fun e => e.exchange.any fun x => x.holds k c).toList.countP id := fun v => by
      rw [Vector.toList_map, List.countP_map]
      rfl
    rw [State.exchangesOn, State.exchangesOn, each, each]
    congr 2
    refine Vector.ext fun i hi => ?_
    have fields := congrArg (fun o => o.any fun r => r.1 == k && r.2.1 == c) (same ⟨i, hi⟩).2
    simpa [Option.any_map, Exchange.holds, Function.comp_def] using fields
  refine ⟨fun k c => ?_, fun k c => ?_, ⟨fun i x open_ n named => ?_, fun i x open_ n named => ?_⟩⟩
  · rw [counts, ← h.refs]
    simp only [State.bank, slots]
  · have counted := h.counted k c
    simpa only [State.bank, slots] using counted
  · obtain ⟨y, was, wrap, _, carried⟩ := record i x open_
    obtain ⟨j, held, id, f, target⟩ := h.names.wraps i y was n (wrap.trans named)
    exact ⟨j, held, id, f, target.trans (by rw [carried])⟩
  · obtain ⟨y, was, _, verify, carried⟩ := record i x open_
    obtain ⟨j, held, id, f, target⟩ := h.names.verifies i y was n (verify.trans named)
    exact ⟨j, held, id, f, target.trans (by rw [carried])⟩

end Sys2Proof.Machine
end

section
/-! SUPPORT. The account of the references under every command. -/

namespace Sys2Proof.Machine

variable {s : State} {jobs left : List Job}

/-! ## Results of payment jobs -/

theorem State.Accounted.formed (h : s.Accounted) {i : Fin 128} {x : Exchange} (open_ : s.tills[i].exchange = some x) :
    x.Formed := h.exchanges i x open_

/-- What leaves the work and the till numbers keeps the account of a completed job too. -/
theorem State.Holds.done {a b : State} {j : Job} (h : a.Holds (j :: a.allJobs)) (work : b.work = a.work)
    (items : b.byItems = a.byItems) : b.Holds (j :: b.allJobs) := by
  rw [State.allJobs_of_work work]
  exact h.same work items

theorem Distinct.of_work {a b : State} {j : Job} (ids : Distinct (j :: a.allJobs)) (work : b.work = a.work) :
    Distinct (j :: b.allJobs) := by
  rwa [State.allJobs_of_work work]

/-- The wrapped request of a completed job: its exchange awaits a reply, or closes (R94, R95). -/
theorem State.Holds.sendWrapped {j : Job} (h : s.Holds (j :: s.allJobs)) (ids : Distinct (j :: s.allJobs))
    {t : JobTarget} (c : Capture) (d : Destination) (v : WrapValues) {x : Exchange} (formed : x.Formed)
    (open_ : s.tills[t.till].exchange = some x) (job : x.wrapJob = some j.id) :
    (s.sendWrapped t c d v x).Holds (s.sendWrapped t c d v x).allJobs := by
  have work : ((s.wrapBuilt t c d v).offerOwn .L (.wrapped t.frame)).1.work = s.work := State.offerOwn_work _ .L _
  have items : ((s.wrapBuilt t c d v).offerOwn .L (.wrapped t.frame)).1.byItems = s.byItems :=
    State.offerOwn_byItems _ .L (by simp)
  have offered := h.done work items
  have distinct := ids.of_work work
  have still := ((State.work_eq_iff.mp work).2.2.2.2.2 t.till).trans open_
  rw [State.sendWrapped_eq]
  dsimp only
  split
  · have awaits := offered.await distinct formed still (.inl ⟨by simp [job], rfl⟩) (.inl job) (.refl _)
    have same : ∀ u : State, ((u.bump .wrapsSent).bumpStat t.till .wrapsSent).work = u.work := fun u => by simp
    unfold State.wrapTaken
    rw [State.allJobs_of_work (same _)]
    exact awaits.same (same _) (by simp)
  · have closed := offered.closeDone distinct still (formed.job (.inl job))
    rw [State.allJobs_of_work (State.standIn_work _ _ _ _ _)]
    exact closed.same (State.standIn_work _ _ _ _ _) (State.standIn_byItems _ _ _ _ _)

theorem State.Holds.forwardReply {j : Job} (h : s.Holds (j :: s.allJobs)) (ids : Distinct (j :: s.allJobs))
    {t : JobTarget} (n : Nat) {x : Exchange} (formed : x.Formed) (open_ : s.tills[t.till].exchange = some x)
    (job : x.verifyJob = some j.id) : (s.forwardReply t n x).Holds (s.forwardReply t n x).allJobs := by
  unfold State.forwardReply
  dsimp only
  rw [State.allJobs_of_work (State.bump_work _ _)]
  have work : (State.offerOwn { s with
      frames := s.frames.set t.frame (s.forwardedFrame t n x), ident := s.ident + 1 } .T (.forwarded t.frame)).1.work =
        s.work := State.offerOwn_work _ .T _
  have items : (State.offerOwn { s with
      frames := s.frames.set t.frame (s.forwardedFrame t n x), ident := s.ident + 1 } .T (.forwarded t.frame)).1.byItems =
        s.byItems := State.offerOwn_byItems _ .T (by simp)
  have still := ((State.work_eq_iff.mp work).2.2.2.2.2 t.till).trans open_
  have closed := (h.done work items).closeDone (ids.of_work work) still (formed.job (.inr job))
  exact closed.same (State.bump_work _ _) (State.bump_byItems _ _)

theorem State.Holds.failReply {j : Job} (h : s.Holds (j :: s.allJobs)) (ids : Distinct (j :: s.allJobs))
    {t : JobTarget} {x : Exchange} (formed : x.Formed) (open_ : s.tills[t.till].exchange = some x)
    (job : x.verifyJob = some j.id) : (s.failReply t x).Holds (s.failReply t x).allJobs := by
  have work : (((s.freeFrame t.frame).latch .tagFail).bump .tagFailures).work = s.work := by simp
  have told := h.done work (by simp)
  have distinct := ids.of_work work
  have still := ((State.work_eq_iff.mp work).2.2.2.2.2 t.till).trans open_
  unfold State.failReply
  dsimp only
  split
  · have latched : ((((s.freeFrame t.frame).latch .tagFail).bump .tagFailures).latch .replyLost).work =
        (((s.freeFrame t.frame).latch .tagFail).bump .tagFailures).work := State.latch_work _ _
    have closed := (told.done latched (by simp)).closeDone (distinct.of_work latched) still (formed.job (.inr job))
    rw [State.allJobs_of_work (State.closeLost_work _ _ _ _)]
    exact closed.same (State.closeLost_work _ _ _ _) (by simp [State.closeLost])
  · exact told.await distinct formed still (.inr ⟨by simp [job], rfl⟩) (.inr job) (.refl _)

/-! ## Admissions and replies -/

theorem State.exchangesOn_enter (s : State) (j : Job) (k : Fin 16) (b : BankId) :
    (s.enterJob j).exchangesOn k b = s.exchangesOn k b := by
  rw [State.exchangesOn, State.enterJob_tills]
  rfl

theorem State.enterJob_carried (s : State) (j : Job) (i : Fin 128) (x : Exchange) (f : Fin 64) :
    (s.enterJob j).carried i x f = s.carried i x f := by
  simp only [State.carried, State.enterJob_tills]

theorem State.enterJob_bank (s : State) (j : Job) (k : Fin 16) (b : BankId) : (s.enterJob j).bank k b = s.bank k b := by
  simp only [State.bank, State.enterJob_slots]

/-- An accepted reply takes a reference with its VERIFY job (R100). -/
theorem State.Accounted.acceptReply (h : s.Accounted) {i : Fin 128} {x : Exchange} {k : Fin 64} {rest : List (Fin 64)}
    (f : Bytes) (open_ : s.tills[i].exchange = some x) (awaiting : x.phase = .awaiting) :
    (s.acceptReply i x k rest f).Holds (s.acceptReply i x k rest f).allJobs := by
  unfold State.acceptReply
  dsimp only
  refine State.Holds.perm ?_ (State.enterJob_allJobs _ _).symm
  have no_wrap : x.wrapJob = none := by
    have wrap := (h.formed open_).1
    rw [awaiting] at wrap
    simpa using wrap
  refine h.holds.take (k := x.slot) (b := x.bank) (n := 1) (fun l c => ?_) (h.holds.used open_) (fun l c => ?_)
    (fun l c => ?_) (h.holds.names.with fun m y opened => ?_)
  · have exchanges := s.exchangesOn_setExchange i (some { x with phase := .verifying, verifyJob := some s.nextJob }) l c
    rw [open_] at exchanges
    simp only [Option.any_some, Exchange.holds] at exchanges
    rw [State.exchangesOn_enter, jobsOn_cons]
    change State.exchangesOn (s.setExchange i (some { x with phase := .verifying, verifyJob := some s.nextJob })) l c +
      (jobsOn s.allJobs l c + if (x.slot == l && x.bank == c) = true then 1 else 0) = _
    simp only [holds_iff] at exchanges ⊢
    omega
  · rw [State.enterJob_bank]
    change (State.bank (s.takeRefs x.slot x.bank 1) l c).refs = _
    unfold State.takeRefs
    rw [State.setBank_bank]
    split
    next same => obtain ⟨rfl, rfl⟩ := same; rfl
    · rfl
  · rw [State.enterJob_bank]
    change (State.bank (s.takeRefs x.slot x.bank 1) l c).state = _
    unfold State.takeRefs
    rw [State.setBank_bank]
    split
    next same => obtain ⟨rfl, rfl⟩ := same; rfl
    · rfl
  · rw [State.enterJob_tills] at opened ⊢
    have number := s.setExchange_number i m (some { x with phase := .verifying, verifyJob := some s.nextJob })
    refine ⟨number, .inl ?_⟩
    change (s.setExchange i (some { x with phase := .verifying, verifyJob := some s.nextJob })).tills[m].exchange = some y
      at opened
    rw [State.setExchange_entry] at opened
    split at opened
    next same =>
      subst same
      obtain rfl := Option.some.inj opened
      refine ⟨x, open_, rfl, rfl, rfl, rfl, .inl no_wrap, .inr ⟨rfl, k, ?_⟩⟩
      rw [State.enterJob_carried]
      exact congrArg some (by rw [State.carried]; congr 1; exact number.symm)
    · exact ⟨y, opened, rfl, rfl, rfl, rfl, .inr rfl, .inl rfl⟩

/-- An admission takes two references, of its exchange and of its WRAP job (R62, R92). -/
theorem State.Accounted.openExchange (h : s.Accounted) {c : Capture} (d : Destination) {b : BankId} {k : Fin 64}
    {rest : List (Fin 64)} (f : Bytes) (closed : s.tills[c.till].exchange = none)
    (key : keyTest s.slots[(s.tills[c.till]).slot] = .ok b) :
    (s.openExchange c d b k rest f).Holds (s.openExchange c d b k rest f).allJobs := by
  unfold State.openExchange
  dsimp only
  refine State.Holds.perm ?_ (State.enterJob_allJobs _ _).symm
  have live : (s.bank (s.tills[c.till]).slot b).state = .live := (keyTest_ok key).1
  refine h.holds.take (k := (s.tills[c.till]).slot) (b := b) (n := 2) (fun l e => ?_)
    (by rw [live]; exact ⟨nofun, nofun⟩) (fun l e => ?_) (fun l e => ?_) (h.holds.names.with fun m y opened => ?_)
  · rw [State.exchangesOn_enter, jobsOn_cons]
    have exchanges := s.exchangesOn_setExchange c.till
      (some
        { phase := .admitted, seq := c.seq, sourcePort := c.sourcePort, slot := (s.tills[c.till]).slot, bank := b
          generation := (s.bank (s.tills[c.till]).slot b).generation
          counter := (s.bank (s.tills[c.till]).slot b).counter + 1, deadline := deadlineOf (s.tills[c.till]).timeoutCode
          expiredWhileVerifying := false, wrapJob := some s.nextJob, verifyJob := none }) l e
    rw [closed] at exchanges
    simp only [Option.any_some, Option.any_none, Exchange.holds, Bool.false_eq_true, if_false, Nat.add_zero] at exchanges
    change State.exchangesOn (s.setExchange c.till _) l e +
      (jobsOn s.allJobs l e + if ((s.tills[c.till]).slot == l && b == e) = true then 1 else 0) = _
    simp only [holds_iff, exchanges]
    split <;> omega
  · rw [State.enterJob_bank]
    change (State.bank (s.setBank (s.tills[c.till]).slot b _) l e).refs = _
    rw [State.setBank_bank]
    split
    next same => obtain ⟨rfl, rfl⟩ := same; rfl
    · rfl
  · rw [State.enterJob_bank]
    change (State.bank (s.setBank (s.tills[c.till]).slot b _) l e).state = _
    rw [State.setBank_bank]
    split
    next same => obtain ⟨rfl, rfl⟩ := same; rfl
    · rfl
  · rw [State.enterJob_tills] at opened ⊢
    have number : ∀ x, (s.setExchange c.till x).tills[m].number = s.tills[m].number := fun x =>
      s.setExchange_number c.till m x
    refine ⟨number _, ?_⟩
    change (s.setExchange c.till _).tills[m].exchange = some y at opened
    rw [State.setExchange_entry] at opened
    split at opened
    next same =>
      subst same
      obtain rfl := Option.some.inj opened
      refine .inr ⟨rfl, rfl, k, ?_⟩
      rw [State.enterJob_carried]
      exact congrArg some (by rw [State.carried]; congr 1; exact (number _).symm)
    · exact .inl ⟨y, opened, rfl, rfl, rfl, rfl, .inr rfl, .inl rfl⟩

end Sys2Proof.Machine
end

section
/-! SUPPORT. The account of the references under arrivals, job results, items, starts and ends (R57, R62 to R64). -/

namespace Sys2Proof.Machine

variable {s : State} {jobs left : List Job}

/-! ## Arrivals and job results -/

theorem State.finishLane_open (s : State) (l : Fin 4) {i : Fin 128} {x : Exchange}
    (open_ : s.tills[i].exchange = some x) : (s.finishLane l).tills[i].exchange = some x := by
  rwa [s.finishLane_tills l]

theorem State.Accounted.lost (h : s.Accounted) (i : Fin 128) (x : Exchange) : (s.closeLost i x 0).Accounted := by
  have latched : (s.latch .replyLost).Accounted := h.same (State.latch_work _ _) (by simp)
  exact (latched.close i).same (State.closeLost_work _ _ _ _) (by simp)

/-- The job that a completed job was named by. -/
theorem State.Detached.carries {r : Running} {t : JobTarget} (h : s.Detached r t) : r.job.Carries t := by
  rcases h with ⟨wraps, _⟩ | ⟨verifies, _⟩
  · exact .inl (by rw [Running.job_wraps, wraps])
  · exact .inr (by rw [Running.job_verifies, verifies])

/-- No exchange names the job of a result that is discarded. -/
theorem State.Accounted.detached (h : s.Accounted) {l : Fin 4} {r : Running} (runs : s.lanes[l] = some r)
    {t : JobTarget} (detached : s.Detached r t) {x : Exchange} (open_ : s.tills[t.till].exchange = some x) :
    ¬ x.Names r.job.id := by
  have held : r.job ∈ s.allJobs := (State.finishLane_allJobs runs).mem_iff.mp (by simp)
  have carried : ∀ j ∈ s.allJobs, j.id = r.job.id → j = r.job := fun j member same =>
    Distinct.unique h.jobs.ids member held same
  rw [Running.job_id]
  rcases detached with ⟨wraps, other⟩ | ⟨verifies, other⟩ <;> rintro (named | named)
  · exact other x open_ named
  · obtain ⟨j, member, id, f, target⟩ := h.holds.names.verifies t.till x open_ r.id named
    rw [carried j member (id.trans (Running.job_id r).symm), Running.job_verifies] at target
    cases r <;> simp_all [Running.wraps, Running.verifies]
  · obtain ⟨j, member, id, f, target⟩ := h.holds.names.wraps t.till x open_ r.id named
    rw [carried j member (id.trans (Running.job_id r).symm), Running.job_wraps] at target
    cases r <;> simp_all [Running.wraps, Running.verifies]
  · exact other x open_ named

theorem State.Accounted.discard (h : s.Accounted) {l : Fin 4} {r : Running} {t : JobTarget}
    (runs : s.lanes[l] = some r) (detached : s.Detached r t) :
    ((s.finishLane l).discardJob t).Holds ((s.finishLane l).discardJob t).allJobs := by
  obtain ⟨holds, ids⟩ := h.finish runs
  have released := holds.discard ids detached.carries
    (fun x open_ => h.detached runs detached (by rwa [s.finishLane_tills l] at open_)) (.refl _)
  exact released.of_tills rfl (fun _ => rfl) fun _ _ => rfl

theorem accounted_ordinary : Ordinary State.Accounted :=
  have J : Ordinary State.JobsLaw := jobsLaw_workSteps.ordinary
  have X : Ordinary State.ExchangeLaw := exchangeLaw_workSteps.ordinary
  { aside := fun h e => h.same e.work e.byItems
    receive := fun _ _ h => h.same (by simp) (by simp)
    mgu := fun {a _} h _ _ => State.Accounted.same (a := a) h rfl rfl
    offerMgmt := fun h own => ⟨h.holds.offerMgmt h.jobs own, J.offerMgmt h.jobs own, X.offerMgmt h.exchanges own⟩
    arpArrive := fun _ _ h => h.same (by simp) (by simp)
    offerBridge := fun _ _ h => h.same (by simp) (by simp)
    standIn := fun _ _ _ h _ => h.same (by simp) (by simp)
    acceptReply := fun f h valid open_ awaiting free room =>
      ⟨h.acceptReply f open_ awaiting, J.acceptReply f h.jobs valid open_ awaiting free room,
        X.acceptReply f h.exchanges valid open_ awaiting free room⟩
    close := fun i h => h.close i
    lost := fun {_ i x} h _ => h.lost i x
    expired := fun {a i x} h open_ => by
      refine ⟨h.holds.of_records rfl fun k => ⟨State.setExchange_number _ _ _ _, ?_⟩, J.expired h.jobs open_,
        X.expired h.exchanges open_⟩
      rw [State.setExchange_entry]
      split
      next same => subst same; rw [open_]; rfl
      · rfl
    tick := fun {a} h => by
      refine ⟨h.holds.of_records rfl fun k => ?_, J.tick h.jobs, X.tick h.exchanges⟩
      have entry : a.tickTills.tills[k] = { a.tills[k] with exchange := a.tills[k].exchange.map Exchange.tick } := by
        simp [State.tickTills]
      rw [entry, Option.map_map]
      exact ⟨rfl, rfl⟩
    finishMgmt := fun h runs own => by
      refine ⟨?_, J.finishMgmt h.jobs runs own, X.finishMgmt h.exchanges runs own⟩
      rw [← Running.job_frame] at own
      refine (h.finish runs).1.of_jobs (fun k b => ?_) fun j held carries => ?_
      · rw [jobsOn_cons, Job.holds_of_frame own]
        rfl
      · refine (List.mem_cons.mp held).resolve_left fun same => ?_
        obtain ⟨wraps, verifies⟩ := JobWork.carries_of_frame own
        rw [same, wraps, verifies] at carries
        simp at carries
    discard := fun h runs detached =>
      ⟨h.discard runs detached, J.discard h.jobs runs detached, X.discard h.exchanges runs detached⟩
    sendWrapped := fun {a l _ t c d v x} h runs open_ job => by
      obtain ⟨holds, ids⟩ := h.finish runs
      exact ⟨holds.sendWrapped ids c d v (h.formed open_) (a.finishLane_open l open_) job,
        J.sendWrapped h.jobs runs open_ job, X.sendWrapped h.exchanges runs open_ job⟩
    forwardReply := fun {a l _ t _ n _ x} h runs open_ job => by
      obtain ⟨holds, ids⟩ := h.finish runs
      exact ⟨holds.forwardReply ids n (h.formed open_) (a.finishLane_open l open_) job,
        J.forwardReply h.jobs runs open_ job, X.forwardReply h.exchanges runs open_ job⟩
    failReply := fun {a l _ t _ _ _ x} h runs open_ job => by
      obtain ⟨holds, ids⟩ := h.finish runs
      exact ⟨holds.failReply ids (h.formed open_) (a.finishLane_open l open_) job,
        J.failReply h.jobs runs open_ job, X.failReply h.exchanges runs open_ job⟩
    askNotice := fun h => h.same (State.askNotice_notice _).work (State.askNotice_notice _).byItems
    linkUp := fun h _ => h.same (by simp) (by simp) }

/-! ## Items -/

theorem State.Holds.closed_till (h : s.Holds jobs) {i : Fin 128} {e : TillEntry}
    (closed : s.tills[i].exchange = none)
    (entry : e.exchange = none) : (s.setTill i e).Holds jobs := by
  refine h.of_tills rfl (fun k => ?_) fun k open_ => ?_ <;>
    simp only [State.setTill, getElem_set_fin] at * <;> split
  next same => subst same; rw [entry, closed]
  · rfl
  next same => subst same; simp [entry] at open_
  · rfl

theorem KeyBank.Counted.cleared : KeyBank.cleared.Counted := ⟨fun _ => rfl, nofun⟩

theorem KeyBank.giveUp_counted (b : KeyBank) : b.giveUp.refs = b.refs ∧ b.giveUp.Counted := by
  rcases b.giveUp_cases with ⟨none, given⟩ | ⟨some, given⟩ <;> rw [given]
  · exact ⟨none.symm, .cleared⟩
  · exact ⟨rfl, nofun, fun _ => Nat.one_le_iff_ne_zero.mpr some⟩

/-- One bank replaced by one with the same count that fits its new state. -/
theorem State.Holds.setBank (h : s.Holds jobs) {i : Fin 16} {b : BankId} {x : KeyBank}
    (bank : x.refs = (s.bank i b).refs ∧ x.Counted) : (s.setBank i b x).Holds jobs := by
  refine h.of_banks rfl fun k c => ?_
  rw [State.setBank_bank]
  split
  next same => obtain ⟨rfl, rfl⟩ := same; exact bank
  · exact ⟨rfl, h.counted k c⟩

theorem State.Holds.discardStage (h : s.Holds jobs) {i : Fin 16} {b : BankId} (staged : s.slots[i].staged = some b) :
    (s.setBank i b .cleared).Holds jobs :=
  h.setBank ⟨((h.counted i b).idle (.inr (KeySlot.staged_eq_some staged))).symm, .cleared⟩

theorem accounted_items : ItemRules State.Accounted :=
  have J : ItemRules State.JobsLaw := jobsLaw_keeps.items
  have X : ItemRules State.ExchangeLaw := exchangeLaw_keeps.items
  { writeSettings := fun h e => by
      obtain ⟨x, _, rfl⟩ := State.writeSettings_ok e
      exact ⟨h.holds.of_tills rfl (fun _ => rfl) fun _ _ => rfl, J.writeSettings h.jobs e, X.writeSettings h.exchanges e⟩
    writeTill := fun {a _ _} h e => by
      refine ⟨?_, J.writeTill h.jobs e, X.writeTill h.exchanges e⟩
      obtain ⟨i, f, _, _, _, rfl⟩ := State.writeTill_ok e
      have closed : (a.closeExchange i 0).tills[i].exchange = none := by rw [State.closeExchange_entry]
      exact (h.close i).holds.closed_till closed (by rw [TillEntry.write_exchange, closed])
    clearTill := fun {a _ _} h e => by
      refine ⟨?_, J.clearTill h.jobs e, X.clearTill h.exchanges e⟩
      obtain ⟨i, _, rfl⟩ := State.clearTill_ok e
      exact (h.close i).holds.closed_till (by rw [State.closeExchange_entry]) rfl
    writeRule := fun h e => by
      refine ⟨?_, J.writeRule h.jobs e, X.writeRule h.exchanges e⟩
      obtain ⟨i, r, _, rfl⟩ := State.writeRule_ok e
      exact h.holds.of_tills rfl (fun _ => rfl) fun _ _ => rfl
    clearRule := fun h e => by
      refine ⟨?_, J.clearRule h.jobs e, X.clearRule h.exchanges e⟩
      obtain ⟨i, _, rfl⟩ := State.clearRule_ok e
      exact h.holds.of_tills rfl (fun _ => rfl) fun _ _ => rfl
    writeLocator := fun h e => by
      refine ⟨?_, J.writeLocator h.jobs e, X.writeLocator h.exchanges e⟩
      obtain ⟨i, l, _, rfl⟩ := State.writeLocator_ok e
      exact h.holds.of_tills rfl (fun _ => rfl) fun _ _ => rfl
    clearLocator := fun h e => by
      refine ⟨?_, J.clearLocator h.jobs e, X.clearLocator h.exchanges e⟩
      obtain ⟨i, _, rfl⟩ := State.clearLocator_ok e
      exact h.holds.of_tills rfl (fun _ => rfl) fun _ _ => rfl
    writeDestination := fun h e => by
      refine ⟨?_, J.writeDestination h.jobs e, X.writeDestination h.exchanges e⟩
      obtain ⟨i, _, rfl⟩ := State.writeDestination_ok e
      exact h.holds.of_tills rfl (fun _ => rfl) fun _ _ => rfl
    clearDestination := fun h e => by
      refine ⟨?_, J.clearDestination h.jobs e, X.clearDestination h.exchanges e⟩
      obtain ⟨i, _, rfl⟩ := State.clearDestination_ok e
      exact h.holds.of_tills rfl (fun _ => rfl) fun _ _ => rfl
    discardStage := fun h e => by
      refine ⟨?_, J.discardStage h.jobs e, X.discardStage h.exchanges e⟩
      obtain ⟨i, b, staged, rfl⟩ := State.discardStage_ok e
      exact h.holds.discardStage staged
    writeEventMap := fun h e => by
      refine ⟨?_, J.writeEventMap h.jobs e, X.writeEventMap h.exchanges e⟩
      obtain ⟨m, _, _, rfl⟩ := State.writeEventMap_ok e
      exact h.holds.of_tills rfl (fun _ => rfl) fun _ _ => rfl
    clearCounters := fun {a} h => by
      refine ⟨?_, J.clearCounters h.jobs, X.clearCounters h.exchanges⟩
      have holds := h.holds.same (State.clearCounters_work a)
        (State.byItems_eq_iff.mpr ⟨State.clearCounters_tables a, rfl⟩)
      rwa [← State.allJobs_of_work (State.clearCounters_work a)] at holds }

/-! ## Banks charged, filled and given up -/

theorem State.Holds.commitStage (h : s.Holds jobs) (i : Fin 16) (g : Byte) (code : Fin 8) (keys : List Key)
    (given : List (Key × CheckValue)) : (s.commitStage i (stagedBank g code keys given)).Holds jobs := by
  unfold State.commitStage
  split
  · exact h.of_banks rfl fun k b => ⟨rfl, h.counted k b⟩
  next b target =>
    have idle : (s.bank i b).refs = 0 := by
      refine (h.counted i b).idle ?_
      rcases KeySlot.stageTarget_eq_some target with staged | ⟨empty, _⟩
      · exact .inr staged
      · exact .inl empty
    have filled : (s.setBank i b (stagedBank g code keys given)).Holds jobs := h.setBank ⟨idle.symm, fun _ => rfl, nofun⟩
    exact filled.of_banks rfl fun k c => ⟨rfl, filled.counted k c⟩

theorem State.Holds.switchSlot (h : s.Holds jobs) {i : Fin 16} {k : KeySlot} (switched : s.slots[i].switch = some k) :
    ({ s with slots := s.slots.set i k } : State).Holds jobs := by
  refine h.of_banks rfl fun l c => ?_
  have bank : ({ s with slots := s.slots.set i k } : State).bank l c = if i = l then k.bank c else s.bank l c := by
    unfold State.bank
    rw [getElem_set_fin]
    split <;> rfl
  rw [bank]
  split
  next same =>
    subst same
    obtain ⟨b, d, other, staged, live, given⟩ := KeySlot.switch_cases switched
    rcases BankId.eq_or_eq other c with rfl | rfl
    · rw [live]
      exact ⟨rfl, nofun, nofun⟩
    · rw [given]
      split
      · exact KeyBank.giveUp_counted _
      · exact ⟨rfl, h.counted i c⟩
  · exact ⟨rfl, h.counted l c⟩

theorem accounted_banks : BankRules State.Accounted :=
  have J : BankRules State.JobsLaw := jobsLaw_keeps.banks
  have X : BankRules State.ExchangeLaw := exchangeLaw_keeps.banks
  { openExchange := fun d _ _ _ f h valid closed key free room =>
      ⟨h.openExchange d f closed key, J.openExchange d f h.jobs valid closed key free room,
        X.openExchange d f h.exchanges valid closed key free room⟩
    commitStage := fun {a} i g code keys given h => by
      refine ⟨?_, J.commitStage i g code keys given h.jobs, X.commitStage i g code keys given h.exchanges⟩
      have holds := h.holds.commitStage i g code keys given
      have jobs : (a.commitStage i (stagedBank g code keys given)).allJobs = a.allJobs := by
        unfold State.commitStage
        split <;> rfl
      rwa [jobs]
    switchSlot := fun h e => by
      refine ⟨?_, J.switchSlot h.jobs e, X.switchSlot h.exchanges e⟩
      obtain ⟨i, k, switched, rfl⟩ := State.switchSlot_ok e
      exact h.holds.switchSlot switched
    retireSlot := fun h e => by
      refine ⟨?_, J.retireSlot h.jobs e, X.retireSlot h.exchanges e⟩
      obtain ⟨i, x, _, _, rfl⟩ := State.retireSlot_ok e
      exact h.holds.setBank (KeyBank.giveUp_counted _) }

/-! ## Ends and starts -/

theorem KeyBank.afterStart_counted (b : KeyBank) : b.afterStart.refs = 0 ∧ b.afterStart.Counted := by
  unfold KeyBank.afterStart
  split
  · exact ⟨rfl, .cleared⟩
  · exact ⟨rfl, .cleared⟩
  next staged => exact ⟨rfl, fun _ => rfl, fun draining => by cases staged.symm.trans draining⟩
  next live => exact ⟨rfl, fun _ => rfl, fun draining => by cases live.symm.trans draining⟩

/-- With no exchange open, no job in the engine and every count 0, the account is even. -/
theorem State.cleared_accounted (jobs : s.JobsLaw) (none_held : s.allJobs = [])
    (closed : ∀ i : Fin 128, s.tills[i].exchange = none) (banks : ∀ k b, (s.bank k b).refs = 0 ∧ (s.bank k b).Counted) :
    s.Accounted := by
  refine ⟨⟨fun k b => ?_, fun k b => (banks k b).2, ⟨fun i x open_ => ?_, fun i x open_ => ?_⟩⟩, jobs,
    State.closed_exchangeLaw closed⟩
  · have exchanges : s.exchangesOn k b = 0 := by
      refine List.countP_eq_zero.mpr fun e held => ?_
      obtain ⟨n, hn, rfl⟩ := Vector.mem_iff_getElem.mp (Vector.mem_toList_iff.mp held)
      have none := closed ⟨n, hn⟩
      rw [Fin.getElem_fin] at none
      simp [none]
    rw [(banks k b).1, exchanges, none_held]
    rfl
  · cases (closed i).symm.trans open_
  · cases (closed i).symm.trans open_

theorem State.loseWork_accounted (s : State) : s.loseWork.Accounted :=
  State.cleared_accounted (State.cleared_jobsLaw rfl rfl rfl) rfl (State.withoutExchange_closed rfl) fun k b => by
    rw [State.loseWork_bank]
    exact KeyBank.afterStart_counted _

theorem State.Accounted.of_tables {a b : State} (h : a.Accounted) (work : b.work = a.work)
    (tables : b.tables = a.tables) : b.Accounted := by
  obtain ⟨_, _, _, _, slots, exchange⟩ := State.work_eq_iff.mp work
  refine ⟨State.allJobs_of_work work ▸ h.holds.of_tills slots exchange fun i _ => ?_, h.jobs.of_work work,
    h.exchanges.of_work work⟩
  exact (TillEntry.written_eq_iff.mp ((State.tables_eq_iff.mp tables).2.2.2.2.2 i)).2.1

/-- Every bank as a cold start and an erase leave it (R79). -/
theorem State.cleared_bank (slots : s.slots = Vector.replicate 16 .cleared) (k : Fin 16) (b : BankId) :
    s.bank k b = .cleared := by
  unfold State.bank
  rw [slots, Fin.getElem_fin, Vector.getElem_replicate]
  cases b <;> rfl

theorem accounted_keeps : Keeps State.Accounted where
  ordinary := accounted_ordinary
  items := accounted_items
  banks := accounted_banks
  ends :=
    { linkLost := fun h _ => h.of_tables (State.linkLost_work _ _) (State.linkLost_tables _ _)
      sent := fun h _ => by
        refine h.of_tables (by simp) ?_
        exact (State.tables_of_byItems (State.arbiter_byItems _ _)).trans
          ((State.releaseSent_tables _ _ _).trans (State.tables_of_byItems (State.setPort_byItems _ _ _)))
      sendResponse := fun _ h _ => h.of_tables (State.sendResponse_work _ _ _) (State.sendResponse_tables _ _ _)
      loseWork := fun {a} _ => a.loseWork_accounted }
  starts :=
    { warmStart := fun {a} _ => a.loseWork_accounted.same rfl rfl
      coldStart := fun {a} _ => State.cleared_accounted (State.cleared_jobsLaw rfl rfl rfl) rfl
        (fun i => by simp [State.coldStart, TillEntry.cold]) fun k b => by
          rw [State.cleared_bank rfl]
          exact ⟨rfl, .cleared⟩
      eraseAll := fun {a} _ => accounted_ordinary.eraseAll
        (State.cleared_accounted (State.cleared_jobsLaw rfl rfl rfl) rfl (State.withoutExchange_closed rfl)
          fun k b => by
            rw [State.cleared_bank rfl]
            exact ⟨rfl, .cleared⟩)
        fun p kept => kept.same (State.arbiter_work _ p) (State.arbiter_byItems _ p) }

end Sys2Proof.Machine
end

section
/-! R57 to R59, R62 to R64: the key banks. -/

open Sys2Proof Sys2Proof.Machine

/-- Settles O8: the pairs and the rationing hold slot by slot, and each operation moves a bank's count with the exchange or
the job that takes or releases it. -/
theorem keyBanksStayLegal : Obligations.KeyBanksStayLegal := fun s t e => by
  refine ⟨fun law => pairLaw_keeps.step law e, fun law => rationLaw_keeps.step law e, ?_⟩
  rintro ⟨refs, store, _, exchanges⟩
  have account : s.Accounted := ⟨(s.refLaw_iff store.jobs.own).mp refs, store.jobs, exchanges⟩
  have next := accounted_keeps.step account e
  exact (t.refLaw_iff next.jobs.own).mpr next.holds
end

section
/-! SUPPORT. Port L's frames and the number guard (R162, R163): what leaves them, and what each operation brings there. -/

namespace Sys2Proof.Machine

variable {s : State}

/-! ## Frames that stay or go -/

/-- Port L of `b` has frames of port L of `a` alone: what its queue names is as it was, or empty. -/
structure State.Fewer (a b : State) : Prop where
  bridge : ∀ f ∈ b.portL.bridge, f ∈ a.portL.bridge
  queue : ∀ e ∈ b.portL.ownQueue, e ∈ a.portL.ownQueue ∧ (b.heldFrame .L e = a.heldFrame .L e ∨ b.heldFrame .L e = [])
  sending : ∀ w ∈ b.portL.sending, w ∈ a.portL.sending

theorem State.LineClear.fewer {a b : State} (law : a.LineClear) (h : a.Fewer b) : b.LineClear := by
  refine ⟨fun f held => law.1 f (h.bridge f held), fun e held => ?_, fun w sends => law.2.2 w (h.sending w sends)⟩
  obtain ⟨was, same | empty⟩ := h.queue e held
  · rw [same]; exact law.2.1 e was
  · rw [empty]; decide

theorem State.Fewer.trans {a b c : State} (h : a.Fewer b) (k : b.Fewer c) : a.Fewer c := by
  refine ⟨fun f held => h.bridge f (k.bridge f held), fun e held => ?_, fun w sends => h.sending w (k.sending w sends)⟩
  obtain ⟨between, same | empty⟩ := k.queue e held
  · obtain ⟨was, before⟩ := h.queue e between
    exact ⟨was, by rwa [same]⟩
  · exact ⟨(h.queue e between).1, .inr empty⟩

/-- Frame slot `k` is named by no entry of port L's queue. -/
def State.Unlined (s : State) (k : Fin 64) : Prop := .wrapped k ∉ s.portL.ownQueue ∧ .forwarded k ∉ s.portL.ownQueue

/-- What leaves the ports and the buffers, and writes no frame slot that port L's queue names. -/
theorem State.Fewer.of_sides {a b : State} (same : b.sides = a.sides)
    (frames : ∀ k : Fin 64, b.frames[k] = a.frames[k] ∨ b.frames[k] = [] ∨ a.Unlined k) : a.Fewer b := by
  obtain ⟨_, portL, standIns, notice, _, _, response⟩ := State.sides_eq_iff.mp same
  refine ⟨fun f held => portL ▸ held, fun e held => ⟨portL ▸ held, ?_⟩, fun w sends => portL ▸ sends⟩
  rw [portL] at held
  cases e with
  | wrapped k =>
    rcases frames k with same | empty | unlined
    · exact .inl same
    · exact .inr empty
    · exact absurd held unlined.1
  | forwarded k =>
    rcases frames k with same | empty | unlined
    · exact .inl same
    · exact .inr empty
    · exact absurd held unlined.2
  | standIn | response | notice => simp [State.heldFrame, standIns, notice, response]
  | arp => simp [State.heldFrame, State.port, portL]

theorem State.Fewer.of_frames {a b : State} (same : b.sides = a.sides) (frames : b.frames = a.frames) : a.Fewer b :=
  .of_sides same fun _ => .inl (by rw [frames])

theorem State.freeFrame_fewer (s : State) (k : Fin 64) : s.Fewer (s.freeFrame k) :=
  .of_sides rfl fun i => by
    rw [State.freeFrame_frames, getElem_set_fin]
    split
    · exact .inr (.inl rfl)
    · exact .inl rfl

theorem State.closeExchange_frame (s : State) (i : Fin 128) (n : Nat) (k : Fin 64) :
    (s.closeExchange i n).frames[k] = s.frames[k] ∨ (s.closeExchange i n).frames[k] = [] := by
  rcases s.closeExchange_cases i n with ⟨_, r⟩ | ⟨x, _, _, r⟩ | ⟨x, j, _, _, _, r⟩ <;> rw [r]
  · exact .inl rfl
  · exact .inl rfl
  · obtain ⟨w, v, m, admits⟩ := State.admitWaiting_shape (((s.setExchange i none).removeJob j).releaseRefs x.slot x.bank 2)
    rw [admits]
    show (((s.setExchange i none).removeJob j).frames)[k] = _ ∨ (((s.setExchange i none).removeJob j).frames)[k] = _
    unfold State.removeJob
    dsimp only
    split
    · exact .inl rfl
    · rw [State.freeFrame_frames, getElem_set_fin]
      split
      · exact .inr rfl
      · exact .inl rfl

theorem State.closeExchange_fewer (s : State) (i : Fin 128) (n : Nat) : s.Fewer (s.closeExchange i n) :=
  .of_sides (s.closeExchange_sides i n) fun k => (s.closeExchange_frame i n k).imp_right .inl

theorem State.finishLane_fewer (s : State) (l : Fin 4) : s.Fewer (s.finishLane l) := by
  refine .of_frames (s.finishLane_sides l) ?_
  obtain ⟨w, v, m, h⟩ := s.finishLane_shape l
  rw [h]

theorem State.latch_fewer (s : State) (e : EventSource) : s.Fewer (s.latch e) := .of_frames rfl rfl

theorem State.bump_fewer (s : State) (c : Counter) : s.Fewer (s.bump c) :=
  .of_frames (s.bump_sides c) (by rw [State.bump_eq])

theorem State.guardBlocked_fewer (s : State) : s.Fewer s.guardBlocked :=
  .of_frames s.guardBlocked_sides (by simp [State.guardBlocked, State.bump_eq])

/-- What the buffer of a port's frame holds depends on the buffers alone. -/
theorem State.heldFrame_congr {a b : State} (frames : b.frames = a.frames) (standIns : b.standIns = a.standIns)
    (response : b.responseFrame = a.responseFrame) (notice : b.noticeWaiting = a.noticeWaiting)
    (arp : b.portL.arp = a.portL.arp) (e : OwnEntry) : b.heldFrame .L e = a.heldFrame .L e := by
  cases e <;> simp [State.heldFrame, State.port, frames, standIns, response, notice, arp]

/-- A port replaced by one that has no more frames. -/
theorem State.Fewer.setPort {p : PortId} {x : PortState} (bridge : ∀ f ∈ x.bridge, f ∈ (s.port p).bridge)
    (queue : ∀ e ∈ x.ownQueue, e ∈ (s.port p).ownQueue) (sending : ∀ w ∈ x.sending, w ∈ (s.port p).sending)
    (arp : x.arp = (s.port p).arp) : s.Fewer (s.setPort p x) := by
  cases p with
  | T => exact ⟨fun _ h => h, fun e h => ⟨h, .inl (State.heldFrame_congr rfl rfl rfl rfl rfl e)⟩, fun _ h => h⟩
  | L =>
    exact ⟨bridge, fun e h => ⟨queue e h, .inl (State.heldFrame_congr (by rfl) (by rfl) (by rfl) (by rfl) arp e)⟩,
      sending⟩

/-- A buffer released reads empty (tables of R6 and R163). -/
theorem State.releaseEntry_fewer (s : State) (p : PortId) (e : OwnEntry) : s.Fewer (s.releaseEntry p e) := by
  cases e with
  | wrapped k => exact s.freeFrame_fewer k
  | forwarded k => exact s.freeFrame_fewer k
  | standIn k =>
    refine ⟨fun _ h => h, fun e h => ⟨h, ?_⟩, fun _ h => h⟩
    cases e with
    | standIn i =>
      show ((s.standIns.set k none)[i]).getD [] = _ ∨ ((s.standIns.set k none)[i]).getD [] = _
      rw [getElem_set_fin]
      split
      · exact .inr rfl
      · exact .inl rfl
    | wrapped | forwarded | response | notice | arp => exact .inl rfl
  | response =>
    refine ⟨fun _ h => h, fun e h => ⟨h, ?_⟩, fun _ h => h⟩
    cases e with
    | response => exact .inr rfl
    | wrapped | forwarded | standIn | notice | arp => exact .inl rfl
  | notice =>
    refine ⟨fun _ h => h, fun e h => ⟨h, ?_⟩, fun _ h => h⟩
    cases e with
    | notice => exact .inr rfl
    | wrapped | forwarded | standIn | response | arp => exact .inl rfl
  | arp b =>
    cases p with
    | T => exact ⟨fun _ h => h, fun e h => ⟨h, .inl (State.heldFrame_congr rfl rfl rfl rfl rfl e)⟩, fun _ h => h⟩
    | L =>
      refine ⟨fun _ h => h, fun e h => ⟨h, ?_⟩, fun _ h => h⟩
      cases e with
      | arp i =>
        show ((s.portL.arp.set b none)[i]).getD [] = _ ∨ ((s.portL.arp.set b none)[i]).getD [] = _
        rw [getElem_set_fin]
        split
        · exact .inr rfl
        · exact .inl rfl
      | wrapped | forwarded | standIn | response | notice => exact .inl rfl

/-! ## The arbiter and the offers -/

/-- What the transmitter of port L takes was waiting (R20). -/
theorem State.LineClear.arbiter (law : s.LineClear) (p : PortId) : (s.arbiter p).LineClear := by
  obtain ⟨bridge, queue, sending⟩ := law
  rcases s.arbiter_cases p with ⟨same, _⟩ | ⟨f, rest, _, _, waits, _, took⟩ | ⟨e, rest, _, _, waits, _, took⟩
  · rw [same]
    exact ⟨bridge, queue, sending⟩
  · rw [took]
    cases p with
    | T => exact ⟨bridge, queue, sending⟩
    | L =>
      refine ⟨fun g held => bridge g ?_, queue, fun w sends => ?_⟩
      · rw [show s.portL.bridge = _ from waits]
        exact List.mem_cons_of_mem _ held
      · obtain rfl := Option.some.inj sends
        exact bridge f (by rw [show s.portL.bridge = _ from waits]; exact List.mem_cons_self ..)
  · rw [took]
    have buffers : ∀ d, (s.takeOwn p e rest).heldFrame .L d = s.heldFrame .L d ∨
        (s.takeOwn p e rest).heldFrame .L d = [] := fun d => by
      cases e <;> cases p <;> cases d <;> simp [State.takeOwn, State.heldFrame, State.port, State.setPort]
    have passes : ∀ d ∈ s.portL.ownQueue, guardPasses ((s.takeOwn p e rest).heldFrame .L d) = true := fun d held => by
      rcases buffers d with same | empty
      · rw [same]; exact queue d held
      · rw [empty]; decide
    have port : (s.takeOwn p e rest).portL = _ := s.takeOwn_port p .L e rest
    cases p with
    | T =>
      rw [State.LineClear, port]
      exact ⟨bridge, passes, sending⟩
    | L =>
      have was : s.portL.ownQueue = e :: rest := waits
      rw [State.LineClear, port]
      refine ⟨bridge, fun d held => passes d (was ▸ List.mem_cons_of_mem _ held), fun w sends => ?_⟩
      obtain rfl := Option.some.inj sends
      exact queue e (was ▸ List.mem_cons_self ..)

/-- A frame offered to a port: at port L it passes the guard, or does not come in (R162, R163). -/
theorem State.LineClear.offerOwn (law : s.LineClear) (p : PortId) (e : OwnEntry) : (s.offerOwn p e).1.LineClear := by
  rcases s.offerOwn_cases p e with ⟨_, r⟩ | ⟨_, _, _, r⟩ | ⟨_, passes, r⟩ <;> rw [r]
  · exact law.fewer (s.releaseEntry_fewer p e)
  · exact law.fewer (s.guardBlocked_fewer.trans (State.releaseEntry_fewer _ p e))
  · refine State.LineClear.arbiter ?_ p
    obtain ⟨bridge, queue, sending⟩ := law
    cases p with
    | T => exact ⟨bridge, queue, sending⟩
    | L =>
      refine ⟨bridge, fun d held => ?_, sending⟩
      have same := State.heldFrame_congr (a := s)
        (b := s.setPort .L { s.port .L with ownQueue := (s.port .L).ownQueue ++ [e] }) rfl rfl rfl rfl rfl d
      refine (congrArg guardPasses same).trans ?_
      rcases List.mem_append.mp held with was | new
      · exact queue d was
      · obtain rfl := List.mem_singleton.mp new
        exact passes rfl

theorem State.LineClear.offerBridge (law : s.LineClear) (p : PortId) (f : Bytes) : (s.offerBridge p f).LineClear := by
  rcases s.offerBridge_cases p f with ⟨_, r⟩ | ⟨_, _, _, r⟩ | ⟨_, _, _, r⟩ | ⟨_, passes, _, r⟩ <;> rw [r]
  · exact law.fewer (s.bump_fewer _)
  · exact law.fewer s.guardBlocked_fewer
  · exact law.fewer (s.bump_fewer _)
  · refine State.LineClear.arbiter ?_ p
    obtain ⟨bridge, queue, sending⟩ := law
    cases p with
    | T => exact ⟨bridge, queue, sending⟩
    | L =>
      refine ⟨fun g held => ?_, queue, sending⟩
      rcases List.mem_append.mp held with was | new
      · exact bridge g was
      · obtain rfl := List.mem_singleton.mp new
        exact passes rfl

end Sys2Proof.Machine
end

section
/-! SUPPORT. Port L stays clear under every command (R162). -/

namespace Sys2Proof.Machine

variable {s : State}

/-! ## Slots and buffers not named by port L's queue -/

/-- A slot that is free or a job's is named by no entry (R120). -/
theorem State.StoreLaw.unlined (law : s.StoreLaw) {k : Fin 64} (held : k ∈ s.freeSlots ∨ k ∈ s.jobSlots) :
    s.Unlined k := by
  have one := (s.storeLaw_iff.mp law).2 k
  have owned : 0 < s.freeSlots.count k + s.jobSlots.count k := by
    rcases held with free | job
    · exact Nat.add_pos_left (List.count_pos_iff.mpr free) _
    · exact Nat.add_pos_right _ (List.count_pos_iff.mpr job)
  have none : k ∉ s.portL.entries.filterMap OwnEntry.slot := by
    rw [← List.count_eq_zero]
    unfold State.slotCount at one
    omega
  have lined : ∀ e ∈ s.portL.ownQueue, e.slot ≠ some k := fun e queued named =>
    none (List.mem_filterMap.mpr ⟨e, List.mem_append_left _ queued, named⟩)
  exact ⟨fun queued => lined _ queued rfl, fun queued => lined _ queued rfl⟩

theorem State.StoreLaw.unlined_lane (law : s.StoreLaw) {l : Fin 4} {r : Running} {k : Fin 64}
    (runs : s.lanes[l] = some r) (frame : r.frame = some k) : s.Unlined k := by
  refine law.unlined (.inr (List.mem_filterMap.mpr ⟨r.job, ?_, by rw [Running.job_frame, frame]⟩))
  exact (State.finishLane_allJobs runs).mem_iff.mp (by simp)

theorem State.BufferLaw.queued (law : s.BufferLaw) {e : OwnEntry} (held : e ∈ s.portL.ownQueue) : e.enters .L = true :=
  law.1 .L e (List.mem_append_left _ held)

theorem State.Unlined.of_sides {a b : State} {k : Fin 64} (h : a.Unlined k) (same : b.sides = a.sides) :
    b.Unlined k := by
  obtain ⟨_, portL, _⟩ := State.sides_eq_iff.mp same
  rwa [State.Unlined, portL]

/-! ## Operations -/

theorem State.LineClear.standIn (clear : s.LineClear) (buffers : s.BufferLaw) (i : Fin 128) (r : Reason)
    (q : Option Sequence) (port : UdpPort) : (s.standIn i r q port).LineClear := by
  have counted : s.Fewer (s.countStandIn i r) := .of_frames (s.countStandIn_sides i r) (by
    unfold State.countStandIn
    dsimp only
    split
    · rw [State.bump_eq]
    · rw [State.bumpStat_eq, State.bump_eq]
      rfl)
  have counted_buffers : (s.countStandIn i r).BufferLaw := bufferLaw_sideSteps.same (s.countStandIn_sides i r) buffers
  unfold State.standIn State.buildStandIn
  split
  · exact (clear.fewer counted).fewer (State.bump_fewer _ _)
  next k free =>
    refine State.LineClear.offerOwn ?_ _ _
    refine (clear.fewer counted).fewer ⟨fun _ h => h, fun e queued => ⟨queued, ?_⟩, fun _ h => h⟩
    cases e with
    | standIn e => cases counted_buffers.queued queued
    | wrapped | forwarded | response | notice | arp => exact .inl rfl

theorem State.LineClear.closeLost (clear : s.LineClear) (buffers : s.BufferLaw) (i : Fin 128) (x : Exchange) (n : Nat) :
    (s.closeLost i x n).LineClear := by
  have closed := (s.latch_fewer .replyLost).trans ((s.latch .replyLost).closeExchange_fewer i n)
  have counted : ((s.latch .replyLost).closeExchange i n).Fewer
      (((s.latch .replyLost).closeExchange i n).bumpStat i .repliesLost) :=
    .of_frames (State.bumpStat_sides _ _ _) (by rw [State.bumpStat_eq])
  exact ((clear.fewer closed).fewer counted).standIn (bufferLaw_sideSteps.same (by simp) buffers) _ _ _ _

theorem State.LineClear.sendWrapped (clear : s.LineClear) (buffers : s.BufferLaw) {t : JobTarget}
    (unlined : s.Unlined t.frame) (c : Capture) (d : Destination) (v : WrapValues) (x : Exchange) :
    (s.sendWrapped t c d v x).LineClear := by
  have built : s.Fewer (s.wrapBuilt t c d v) := .of_sides rfl fun k => by
    simp only [State.wrapBuilt, getElem_set_fin]
    split
    next same => exact .inr (.inr (same ▸ unlined))
    · exact .inl rfl
  have offered := (clear.fewer built).offerOwn .L (.wrapped t.frame)
  have still : ((s.wrapBuilt t c d v).offerOwn .L (.wrapped t.frame)).1.BufferLaw :=
    bufferLaw_sideSteps.offerWrapped t.frame (bufferLaw_sideSteps.same (s.wrapBuilt_sides t c d v) buffers)
  rw [State.sendWrapped_eq]
  dsimp only
  split
  · refine offered.fewer (.of_frames (State.wrapTaken_sides _ _ _) ?_)
    unfold State.wrapTaken
    rw [State.bumpStat_eq, State.bump_eq]
    rfl
  · exact (offered.fewer (State.closeExchange_fewer _ _ _)).standIn
      (bufferLaw_sideSteps.same (State.closeExchange_sides _ _ _) still) _ _ _ _

theorem State.LineClear.forwardReply (clear : s.LineClear) {t : JobTarget} (unlined : s.Unlined t.frame) (n : Nat)
    (x : Exchange) : (s.forwardReply t n x).LineClear := by
  have built : s.Fewer { s with
      frames := s.frames.set t.frame (s.forwardedFrame t n x), ident := s.ident + 1 } := .of_sides rfl fun k => by
    simp only [getElem_set_fin]
    split
    next same => exact .inr (.inr (same ▸ unlined))
    · exact .inl rfl
  exact (((clear.fewer built).offerOwn .T (.forwarded t.frame)).fewer (State.closeExchange_fewer _ _ _)).fewer
    (State.bump_fewer _ _)

theorem State.LineClear.failReply (clear : s.LineClear) (buffers : s.BufferLaw) (t : JobTarget) (x : Exchange) :
    (s.failReply t x).LineClear := by
  have told : s.Fewer (((s.freeFrame t.frame).latch .tagFail).bump .tagFailures) :=
    ((s.freeFrame_fewer t.frame).trans (State.latch_fewer _ .tagFail)).trans (State.bump_fewer _ _)
  unfold State.failReply
  dsimp only
  split
  · exact (clear.fewer told).closeLost (bufferLaw_sideSteps.same (by simp) buffers) _ _ _
  · exact (clear.fewer told).fewer (.of_frames rfl rfl)

/-- The frame of an arrival goes into a slot that was free. -/
theorem State.Fewer.enter {k : Fin 64} (unlined : s.Unlined k) (f : Bytes) {a : State} {j : Job}
    (sides : a.sides = s.sides) (frames : a.frames = s.frames.set k f) : s.Fewer (a.enterJob j) := by
  refine .of_sides ((a.enterJob_sides j).trans sides) fun i => ?_
  obtain ⟨w, v, h⟩ := a.enterJob_shape j
  rw [h]
  simp only [frames, getElem_set_fin]
  split
  next same => exact .inr (.inr (same ▸ unlined))
  · exact .inl rfl

theorem State.LineClear.askNotice (clear : s.LineClear) (buffers : s.BufferLaw) : s.askNotice.LineClear := by
  unfold State.askNotice
  split
  · exact clear
  next d _ =>
    split
    next w waits =>
      unfold State.rewriteNotice
      dsimp only
      split
      next passes =>
        obtain ⟨bridge, queue, sending⟩ := clear
        refine ⟨bridge, fun e queued => ?_, sending⟩
        have held : e = .notice ∨
            State.heldFrame { s with noticeWaiting := some { w with frame := s.noticeFrame d w.ident } } .L e =
              s.heldFrame .L e := by
          cases e with
          | notice => exact .inl rfl
          | wrapped | forwarded | standIn | response | arp => exact .inr rfl
        rcases held with rfl | same
        · exact passes
        · exact (congrArg guardPasses same).trans (queue e queued)
      · refine (clear.fewer s.guardBlocked_fewer).fewer ⟨fun _ h => h, fun e queued => ⟨(List.mem_filter.mp queued).1, ?_⟩, fun _ h => h⟩
        cases e with
        | notice => exact .inr rfl
        | wrapped | forwarded | standIn | response | arp => exact .inl rfl
    next free =>
      refine State.LineClear.offerOwn ?_ _ _
      refine clear.fewer ⟨fun _ h => h, fun e queued => ⟨queued, ?_⟩, fun _ h => h⟩
      cases e with
      | notice =>
        have one := ((s.bufferLaw_iff .T).mp buffers).notice
        rw [free] at one
        simp only [reduceCtorEq, if_false, Nat.add_zero, Option.isSome_none, Bool.false_eq_true] at one
        exact absurd queued (List.count_eq_zero.mp one)
      | wrapped | forwarded | standIn | response | arp => exact .inl rfl

theorem State.LineClear.arpArrive (clear : s.LineClear) (buffers : s.BufferLaw) (p : PortId) (f : Bytes) :
    (s.arpArrive p f).LineClear := by
  unfold State.arpArrive
  split
  · exact clear
  next b free =>
    refine State.LineClear.offerOwn ?_ _ _
    cases p with
    | T =>
      exact clear.fewer ⟨fun _ h => h, fun e h => ⟨h, .inl (State.heldFrame_congr rfl rfl rfl rfl rfl e)⟩, fun _ h => h⟩
    | L =>
      refine clear.fewer ⟨fun _ h => h, fun e queued => ⟨queued, ?_⟩, fun _ h => h⟩
      cases e with
      | arp c =>
        have other : b ≠ c := by
          rintro rfl
          have full := (((s.bufferLaw_iff .T).mp buffers).arp .L b).2 (by
            have some := List.count_pos_iff.mpr (show OwnEntry.arp b ∈ (s.port .L).ownQueue from queued)
            unfold State.held
            omega)
          rw [firstFree_eq_some free] at full
          cases full
        refine .inl ?_
        show ((s.portL.arp.set b _)[c]).getD [] = _
        rw [getElem_set_fin, if_neg other]
        rfl
      | wrapped | forwarded | standIn | response | notice => exact .inl rfl

/-! ## The law under every command -/

/-- R162 with the laws that say which buffers hold the waiting frames. -/
structure State.Guarded (s : State) : Prop where
  clear : s.LineClear
  store : s.StoreLaw
  buffers : s.BufferLaw

theorem guarded_ordinary : Ordinary State.Guarded :=
  have S : Ordinary State.StoreLaw := storeLaw_keeps.ordinary
  have B : Ordinary State.BufferLaw := bufferLaw_keeps.ordinary
  { aside := fun h e =>
      ⟨h.clear.fewer (.of_frames (by rw [e]; rfl) (by rw [e])), S.aside h.store e, B.aside h.buffers e⟩
    receive := fun p f h =>
      ⟨h.clear.fewer (.setPort (fun _ k => k) (fun _ k => k) (fun _ k => k) rfl), S.receive p f h.store,
        B.receive p f h.buffers⟩
    mgu := fun {a m} h now next =>
      ⟨h.clear.fewer ⟨fun _ k => k, fun e k => ⟨k, .inl (State.heldFrame_congr rfl rfl rfl rfl rfl e)⟩, fun _ k => k⟩,
        S.mgu h.store now next, B.mgu h.buffers now next⟩
    offerMgmt := fun {a w} h own => by
      refine ⟨h.clear.fewer (.of_frames (a.offerMgmt_sides w) ?_), S.offerMgmt h.store own, B.offerMgmt h.buffers own⟩
      obtain ⟨q, v, m, shape⟩ := a.offerMgmt_shape w
      rw [shape]
    arpArrive := fun p f h => ⟨h.clear.arpArrive h.buffers p f, S.arpArrive p f h.store, B.arpArrive p f h.buffers⟩
    offerBridge := fun p f h => ⟨h.clear.offerBridge p f, S.offerBridge p f h.store, B.offerBridge p f h.buffers⟩
    standIn := fun r q port h valid =>
      ⟨h.clear.standIn h.buffers _ r q port, S.standIn r q port h.store valid, B.standIn r q port h.buffers valid⟩
    acceptReply := fun {a i x k rest} f h valid open_ awaiting free room => by
      refine ⟨h.clear.fewer ?_, S.acceptReply f h.store valid open_ awaiting free room,
        B.acceptReply f h.buffers valid open_ awaiting free room⟩
      exact .enter (h.store.unlined (.inl (free ▸ List.mem_cons_self ..))) f rfl rfl
    close := fun i h => ⟨h.clear.fewer (State.closeExchange_fewer _ i 0), S.close i h.store, B.close i h.buffers⟩
    lost := fun h open_ => ⟨h.clear.closeLost h.buffers _ _ 0, S.lost h.store open_, B.lost h.buffers open_⟩
    expired := fun h open_ =>
      ⟨h.clear.fewer (.of_frames rfl rfl), S.expired h.store open_, B.expired h.buffers open_⟩
    tick := fun {a} h => ⟨h.clear.fewer (.of_frames (a := a) rfl rfl), S.tick h.store, B.tick h.buffers⟩
    finishMgmt := fun {a l r} h runs own =>
      ⟨h.clear.fewer (a.finishLane_fewer l), S.finishMgmt h.store runs own, B.finishMgmt h.buffers runs own⟩
    discard := fun {a l r t} h runs detached =>
      ⟨h.clear.fewer ((a.finishLane_fewer l).trans ((State.freeFrame_fewer _ t.frame).trans (.of_frames rfl rfl))),
        S.discard h.store runs detached, B.discard h.buffers runs detached⟩
    sendWrapped := fun {a l _ t c d v x} h runs open_ job =>
      ⟨(h.clear.fewer (a.finishLane_fewer l)).sendWrapped (bufferLaw_sideSteps.same (a.finishLane_sides l) h.buffers)
          ((h.store.unlined_lane runs rfl).of_sides (a.finishLane_sides l)) c d v x,
        S.sendWrapped h.store runs open_ job, B.sendWrapped h.buffers runs open_ job⟩
    forwardReply := fun {a l _ t _ n _ x} h runs open_ job =>
      ⟨(h.clear.fewer (a.finishLane_fewer l)).forwardReply
          ((h.store.unlined_lane runs rfl).of_sides (a.finishLane_sides l)) n x,
        S.forwardReply h.store runs open_ job, B.forwardReply h.buffers runs open_ job⟩
    failReply := fun {a l _ t _ _ _ x} h runs open_ job =>
      ⟨(h.clear.fewer (a.finishLane_fewer l)).failReply (bufferLaw_sideSteps.same (a.finishLane_sides l) h.buffers) t x,
        S.failReply h.store runs open_ job, B.failReply h.buffers runs open_ job⟩
    askNotice := fun h => ⟨h.clear.askNotice h.buffers, S.askNotice h.store, B.askNotice h.buffers⟩
    linkUp := fun {a p} h down => by
      refine ⟨State.LineClear.arbiter ?_ p, S.linkUp h.store down, B.linkUp h.buffers down⟩
      refine h.clear.fewer (.setPort ?_ ?_ ?_ ?_)
      exacts [fun _ k => k, fun _ k => k, fun _ k => k, rfl] }

theorem guarded_items : ItemRules State.Guarded :=
  have S : ItemRules State.StoreLaw := storeLaw_keeps.items
  have B : ItemRules State.BufferLaw := bufferLaw_keeps.items
  { writeSettings := fun h e => by
      refine ⟨?_, S.writeSettings h.store e, B.writeSettings h.buffers e⟩
      obtain ⟨x, _, rfl⟩ := State.writeSettings_ok e
      exact h.clear.fewer (.of_frames rfl rfl)
    writeTill := fun h e => by
      refine ⟨?_, S.writeTill h.store e, B.writeTill h.buffers e⟩
      obtain ⟨i, f, _, _, _, rfl⟩ := State.writeTill_ok e
      exact (h.clear.fewer (State.closeExchange_fewer _ i 0)).fewer (.of_frames rfl rfl)
    clearTill := fun h e => by
      refine ⟨?_, S.clearTill h.store e, B.clearTill h.buffers e⟩
      obtain ⟨i, _, rfl⟩ := State.clearTill_ok e
      exact (h.clear.fewer (State.closeExchange_fewer _ i 0)).fewer (.of_frames rfl rfl)
    writeRule := fun h e => by
      refine ⟨?_, S.writeRule h.store e, B.writeRule h.buffers e⟩
      obtain ⟨i, r, _, rfl⟩ := State.writeRule_ok e
      exact h.clear.fewer (.of_frames rfl rfl)
    clearRule := fun h e => by
      refine ⟨?_, S.clearRule h.store e, B.clearRule h.buffers e⟩
      obtain ⟨i, _, rfl⟩ := State.clearRule_ok e
      exact h.clear.fewer (.of_frames rfl rfl)
    writeLocator := fun h e => by
      refine ⟨?_, S.writeLocator h.store e, B.writeLocator h.buffers e⟩
      obtain ⟨i, l, _, rfl⟩ := State.writeLocator_ok e
      exact h.clear.fewer (.of_frames rfl rfl)
    clearLocator := fun h e => by
      refine ⟨?_, S.clearLocator h.store e, B.clearLocator h.buffers e⟩
      obtain ⟨i, _, rfl⟩ := State.clearLocator_ok e
      exact h.clear.fewer (.of_frames rfl rfl)
    writeDestination := fun h e => by
      refine ⟨?_, S.writeDestination h.store e, B.writeDestination h.buffers e⟩
      obtain ⟨i, _, rfl⟩ := State.writeDestination_ok e
      exact h.clear.fewer (.of_frames rfl rfl)
    clearDestination := fun h e => by
      refine ⟨?_, S.clearDestination h.store e, B.clearDestination h.buffers e⟩
      obtain ⟨i, _, rfl⟩ := State.clearDestination_ok e
      exact h.clear.fewer (.of_frames rfl rfl)
    discardStage := fun h e => by
      refine ⟨?_, S.discardStage h.store e, B.discardStage h.buffers e⟩
      obtain ⟨i, x, _, rfl⟩ := State.discardStage_ok e
      exact h.clear.fewer (.of_frames rfl rfl)
    writeEventMap := fun h e => by
      refine ⟨?_, S.writeEventMap h.store e, B.writeEventMap h.buffers e⟩
      obtain ⟨m, _, _, rfl⟩ := State.writeEventMap_ok e
      exact h.clear.fewer (.of_frames rfl rfl)
    clearCounters := fun {a} h =>
      ⟨h.clear.fewer (.of_frames (a := a) rfl rfl), S.clearCounters h.store, B.clearCounters h.buffers⟩ }

theorem guarded_banks : BankRules State.Guarded :=
  have S : BankRules State.StoreLaw := storeLaw_keeps.banks
  have B : BankRules State.BufferLaw := bufferLaw_keeps.banks
  { openExchange := fun {a c} d {b k rest} f h valid closed key free room => by
      refine ⟨h.clear.fewer ?_, S.openExchange d f h.store valid closed key free room,
        B.openExchange d f h.buffers valid closed key free room⟩
      exact .enter (h.store.unlined (.inl (free ▸ List.mem_cons_self ..))) f rfl rfl
    commitStage := fun {a} i g code keys given h => by
      refine ⟨h.clear.fewer (.of_frames (State.commitStage_sides _ _ _) ?_), S.commitStage i g code keys given h.store,
        B.commitStage i g code keys given h.buffers⟩
      unfold State.commitStage
      split <;> rfl
    switchSlot := fun h e => by
      refine ⟨?_, S.switchSlot h.store e, B.switchSlot h.buffers e⟩
      obtain ⟨i, k, _, rfl⟩ := State.switchSlot_ok e
      exact h.clear.fewer (.of_frames rfl rfl)
    retireSlot := fun h e => by
      refine ⟨?_, S.retireSlot h.store e, B.retireSlot h.buffers e⟩
      obtain ⟨i, x, _, _, rfl⟩ := State.retireSlot_ok e
      exact h.clear.fewer (.of_frames rfl rfl) }

/-! ## Ends and starts -/

theorem State.releaseAbandoned_fewer (s : State) (p : PortId) (k : TxKind) : s.Fewer (s.releaseAbandoned p k) := by
  unfold State.releaseAbandoned
  split
  · exact s.bump_fewer _
  · exact ⟨fun _ h => h, fun e h => ⟨h, .inl (State.heldFrame_congr rfl rfl rfl rfl rfl e)⟩, fun _ h => h⟩
  · exact s.releaseEntry_fewer p _

theorem State.releaseSent_fewer (s : State) (p : PortId) (k : TxKind) : s.Fewer (s.releaseSent p k) := by
  unfold State.releaseSent
  split
  · exact s.bump_fewer _
  · refine State.Fewer.trans ?_ (State.bump_fewer _ _)
    exact ⟨fun _ h => h, fun e h => ⟨h, .inl (State.heldFrame_congr rfl rfl rfl rfl rfl e)⟩, fun _ h => h⟩
  · exact s.releaseEntry_fewer p _

theorem foldl_fewer {α : Type} {op : State → α → State} (h : ∀ (s : State) a, s.Fewer (op s a)) (as : List α)
    (s : State) : s.Fewer (as.foldl op s) := by
  induction as generalizing s with
  | nil => exact .of_frames rfl rfl
  | cons a as ih => exact (h s a).trans (ih _)

theorem State.linkLost_fewer (s : State) (p : PortId) : s.Fewer (s.linkLost p) := by
  have emptied : s.Fewer (s.setPort p { s.port p with link := .down, sending := none, ownQueue := [], bridge := [] }) :=
    .setPort nofun nofun nofun rfl
  unfold State.linkLost
  dsimp only
  refine State.Fewer.trans ?_ (foldl_fewer (fun st _ => st.bump_fewer _) _ _)
  refine State.Fewer.trans ?_ (foldl_fewer (fun st e => st.releaseEntry_fewer p e) _ _)
  split
  · exact emptied
  · exact emptied.trans (State.releaseAbandoned_fewer _ p _)

/-- While MGU is not ANSWERING no entry names the response buffer (R174). -/
theorem State.BufferLaw.no_response (law : s.BufferLaw) (working : s.mgu ≠ .answering) :
    .response ∉ s.portL.ownQueue := fun queued => by
  have none := ((s.bufferLaw_iff .T).mp law).response
  rw [if_neg working] at none
  have held := List.count_pos_iff.mpr (show OwnEntry.response ∈ (s.port .L).ownQueue from queued)
  simp only [State.held] at none
  omega

theorem State.LineClear.sendResponse (clear : s.LineClear) (buffers : s.BufferLaw) (working : s.mgu ≠ .answering)
    (c : Context) (tag : Bytes) : (s.sendResponse c tag).LineClear := by
  unfold State.sendResponse
  refine State.LineClear.offerOwn ?_ _ _
  refine clear.fewer ⟨fun _ h => h, fun e queued => ⟨queued, ?_⟩, fun _ h => h⟩
  cases e with
  | response => exact absurd queued (buffers.no_response working)
  | wrapped | forwarded | standIn | notice | arp => exact .inl rfl

theorem guarded_ends : ResponseEnds State.Guarded :=
  have S : ResponseEnds State.StoreLaw := storeLaw_keeps.ends
  have B : ResponseEnds State.BufferLaw := bufferLaw_keeps.ends
  { linkLost := fun {a p} h up =>
      ⟨h.clear.fewer (a.linkLost_fewer p), S.linkLost h.store up, B.linkLost h.buffers up⟩
    sent := fun {a p w} h sends => by
      refine ⟨State.LineClear.arbiter (h.clear.fewer (State.Fewer.trans ?_ (State.releaseSent_fewer _ p w.kind))) p,
        S.sent h.store sends, B.sent h.buffers sends⟩
      refine .setPort ?_ ?_ ?_ ?_
      exacts [fun _ k => k, fun _ k => k, nofun, rfl]
    sendResponse := fun {a c} tag h tagging =>
      ⟨h.clear.sendResponse h.buffers (by rw [tagging]; decide) c tag, S.sendResponse tag h.store tagging,
        B.sendResponse tag h.buffers tagging⟩
    loseWork := fun h => ⟨⟨nofun, nofun, nofun⟩, S.loseWork h.store, B.loseWork h.buffers⟩ }

/-- An erase takes frames from port L and empties the frame slots (R23). -/
theorem State.erasing_fewer (s : State) : s.Fewer s.erasing := by
  refine ⟨fun _ h => h, fun e queued => ⟨(List.mem_filter.mp queued).1, ?_⟩, fun w sends => ?_⟩
  · cases e with
    | wrapped | forwarded => simp [State.heldFrame, State.erasing, State.clearEngine]
    | standIn | response | notice | arp => exact .inl rfl
  · exact (Option.filter_eq_some_iff.mp sends).1

theorem guarded_keeps : Keeps State.Guarded where
  ordinary := guarded_ordinary
  items := guarded_items
  banks := guarded_banks
  ends := guarded_ends
  starts :=
    { warmStart := fun h =>
        ⟨⟨nofun, nofun, nofun⟩, storeLaw_keeps.starts.warmStart h.store, bufferLaw_keeps.starts.warmStart h.buffers⟩
      coldStart := fun h =>
        ⟨⟨nofun, nofun, nofun⟩, storeLaw_keeps.starts.coldStart h.store, bufferLaw_keeps.starts.coldStart h.buffers⟩
      eraseAll := fun {a} h => by
        refine guarded_ordinary.eraseAll ⟨h.clear.fewer a.erasing_fewer, ?_, State.erasing_bufferLaw h.buffers⟩
          fun p kept => ⟨kept.clear.arbiter p, ?_, ?_⟩
        · exact State.cold_storeLaw rfl rfl rfl rfl fun p => by cases p <;> exact PortState.afterErase_slots _
        · exact kept.store.of_count (fun k => k.of_work (by simp)) fun _ => State.slotCount_arbiter _ p
        · have buffers := kept.buffers
          rw [State.bufferLaw_iff _ .T] at buffers ⊢
          exact buffers.arbiter p }

end Sys2Proof.Machine
end

section
/-! R162: port L's sources and its transmission. -/

open Sys2Proof Sys2Proof.Machine

/-- Settles O15: what comes to wait at port L has passed the guard, and no buffer that an entry there names is written
while it waits, for each slot and buffer has one holder. -/
theorem lineStaysClearOfPassingRuns : Obligations.LineStaysClearOfPassingRuns := fun _ _ laws e =>
  (guarded_keeps.step ⟨laws.1, laws.2.1, laws.2.2⟩ e).clear
end

section
/-! SUPPORT. The levels after reset. -/

namespace Sys2Proof.Machine

theorem State.levelLaw_reset : State.reset.LevelLaw := by decide +kernel

end Sys2Proof.Machine
end

section
/-! Section 5 of the introduction, R81, R199: the state after reset. -/

open Sys2Proof Sys2Proof.Machine

/-- Settles O18: after reset every table is cold, every bank EMPTY, and nothing is held, open or running. -/
theorem resetMeetsEveryLaw : Obligations.ResetMeetsEveryLaw := by
  have slots : ∀ i : Fin 16, State.reset.slots[i] = .cleared := fun i => by simp [State.reset]
  have closed : ∀ i : Fin 128, State.reset.tills[i].exchange = none := fun i => by simp [State.reset, TillEntry.cold]
  have invalid : ∀ i : Fin 128, State.reset.tills[i].valid = false := fun i => by simp [State.reset, TillEntry.cold]
  have account : State.reset.Accounted :=
    State.cleared_accounted (State.cleared_jobsLaw rfl rfl rfl) rfl closed fun k b => by
      rw [State.cleared_bank rfl]
      exact ⟨rfl, .cleared⟩
  have buffers : State.reset.BufferLaw := State.cold_bufferLaw (linkT := .down) (linkL := .down) rfl rfl nofun rfl rfl
  refine ⟨fun i => ?_, fun i j _ valid => ?_, fun i valid => ?_, fun i j _ _ => ?_, fun i => ?_, State.reset_entryLaw,
    State.closed_exchangeLaw closed, State.cleared_queueLaw rfl rfl,
    State.cold_portLaw (linkT := .down) (linkL := .down) rfl rfl,
    State.cold_storeLaw rfl rfl rfl rfl fun p => by cases p <;> rfl, ⟨nofun, nofun, nofun⟩, buffers, ?_, by decide,
    (State.reset.refLaw_iff account.jobs.own).mpr account.holds⟩
  · rw [slots]
    exact fun _ => rfl
  · rw [invalid] at valid
    cases valid
  · simp [State.reset, Rule.cold] at valid
  · simp [State.reset]
  · rw [slots]
    exact ⟨KeyBank.cleared_rationed, KeyBank.cleared_rationed⟩
  · exact State.levelLaw_reset
end

section
/-! SUPPORT. Item events in the words of the claims: which items a local message may execute (R173), what a refusal
answers, and what a write item answers (R171, R172). -/

namespace Sys2Proof.Machine

variable {s t : State} {c : Context} {item : Item}

/-! ## Fields -/

/-- A field of one byte is that byte. -/
theorem fieldNat_byte (bs : Bytes) (o : Nat) : fieldNat bs o 1 = (byteAt bs o).toNat := by
  unfold fieldNat slice byteAt beNat
  rw [List.take_one, List.head?_drop, List.getD_eq_getElem?_getD]
  cases bs[o]? <;> simp

theorem byteAt_head {body : Bytes} {b : Byte} (first : body.head? = some b) : byteAt body 0 = b := by
  cases body with
  | nil => cases first
  | cons d rest => exact Option.some.inj first

/-! ## Permission and form -/

/-- R173: what the local origin may execute. -/
theorem permitted_store_iff (floor : Nat) (item : Item) :
    permitted .store floor item = true ↔ LocalMay item.kind.toNat floor item.body := by
  have first : (item.body.isEmpty || decide (floor ≤ fieldNat item.body 0 1)) = true ↔
      ∀ b ∈ item.body.head?, floor ≤ b.toNat := by
    rw [fieldNat_byte]
    cases item.body with
    | nil => simp
    | cons b rest => simp [byteAt]
  simp only [permitted, isReadKind, Bool.or_eq_true, Bool.and_eq_true, first, decide_eq_true_eq, beq_iff_eq]
  tauto

theorem State.refusalOf_local (origin : c.origin = .store)
    (may : LocalMay item.kind.toNat s.settings.localFloor item.body)
    (form : bodyForm item.kind.toNat item.body = some true) : s.refusalOf c item = none := by
  have permits := (permitted_store_iff s.settings.localFloor item).mpr may
  unfold State.refusalOf
  simp [origin, permits, form]

/-- An item that the origin may execute, of the form of its kind, has its own rule. -/
theorem State.refusalOf_none (may : c.origin = .remote ∨ LocalMay item.kind.toNat s.settings.localFloor item.body)
    (form : bodyForm item.kind.toNat item.body = some true) : s.refusalOf c item = none := by
  cases origin : c.origin with
  | remote => exact s.refusalOf_remote c item origin form
  | store => exact State.refusalOf_local origin (may.resolve_left (by simp [origin])) form

theorem State.refusalOf_badValue
    (may : c.origin = .remote ∨ LocalMay item.kind.toNat s.settings.localFloor item.body)
    (form : bodyForm item.kind.toNat item.body ≠ some true) : s.refusalOf c item = some .badValue := by
  have permits : permitted c.origin s.settings.localFloor item = true := by
    cases origin : c.origin with
    | remote => rfl
    | store => exact (permitted_store_iff _ _).mpr (may.resolve_left (by simp [origin]))
  simp [State.refusalOf, permits, form]

theorem State.refusalOf_notPermitted (origin : c.origin = .store)
    (may : ¬ LocalMay item.kind.toNat s.settings.localFloor item.body) : s.refusalOf c item = some .notPermitted := by
  have permits : ¬ permitted .store s.settings.localFloor item = true := (permitted_store_iff _ _).not.mpr may
  simp [State.refusalOf, origin, permits]

/-! ## Commands as item events -/

/-- The item command of kind `n` is an item event of that kind. -/
theorem exec_item {i : Instr} {n : Nat} (named : (i, n) ∈ itemKinds) :
    ∃ start act, ∀ s, exec i s = itemEvent start (· == n) act s := by
  simp only [itemKinds, List.mem_cons, List.not_mem_nil, or_false, Prod.mk.injEq] at named
  rcases named with h | h | h | h | h | h | h | h | h | h | h | h | h | h | h | h | h | h | h | h | h | h | h | h | h | h |
    h | h | h <;> obtain ⟨rfl, rfl⟩ := h <;> exact ⟨_, _, fun _ => rfl⟩

theorem answers_of_refusal {i : Instr} {n : Nat} (named : (i, n) ∈ itemKinds) (hand : s.InHand c item)
    (kind : item.kind.toNat = n) {r : ResultCode} (refused : s.refusalOf c item = some r) :
    Answers i s c item r [] := by
  obtain ⟨start, act, event⟩ := exec_item named
  exact ⟨_, (event s).trans (itemEvent_refused start _ act s c item r hand (by simp [kind]) refused),
    conclude_settles ..⟩

/-- Table 11-6 gives no form to a kind it does not list. -/
theorem bodyForm_of_unknown {n : Nat} (body : Bytes) (unknown : n = 0 ∨ 29 < n) : bodyForm n body = none := by
  unfold bodyForm
  split <;> simp_all

theorem answers_of_unknown (hand : s.InHand c item) (unknown : item.kind.toNat = 0 ∨ 29 < item.kind.toNat)
    {r : ResultCode} (refused : s.refusalOf c item = some r) : Answers .unknownItemKind s c item r [] := by
  have kind : unknownKind item.kind.toNat = true := by
    unfold unknownKind
    rcases unknown with zero | above
    · simp [zero]
    · simp [above]
  have event : exec .unknownItemKind s =
      itemEvent false unknownKind (fun s _ item => s.dropStage.answer item.kind .badValue []) s := rfl
  exact ⟨_, event.trans (itemEvent_refused false _ _ s c item r hand kind refused), conclude_settles ..⟩

end Sys2Proof.Machine
end

section
/-! R171, R173, R202: items refused by permission or form. -/

open Sys2Proof Sys2Proof.Machine

/-- Settles O46: every item command is an item event, which answers a refusal before it comes to the item's own rule. -/
theorem itemsRefusedByPermissionOrForm : Obligations.ItemsRefusedByPermissionOrForm := by
  refine ⟨fun s c item i n named hand kind => ⟨fun origin may => ?_, fun may form => ?_⟩,
    fun s c item hand unknown => ⟨fun origin => ?_, fun origin => ?_⟩⟩
  · exact answers_of_refusal named hand kind (State.refusalOf_notPermitted origin (kind ▸ may))
  · exact answers_of_refusal named hand kind (State.refusalOf_badValue (kind ▸ may) (by rw [kind, form]; simp))
  · refine answers_of_unknown hand unknown (State.refusalOf_badValue (.inl origin) ?_)
    rw [bodyForm_of_unknown _ unknown]
    nofun
  · refine answers_of_unknown hand unknown (State.refusalOf_notPermitted origin ?_)
    rintro (read | clear | ⟨till | till, _⟩)
    · simp only [List.mem_cons, List.not_mem_nil, or_false] at read
      omega
    all_goals omega
end

section
/-! SUPPORT. What the items that a local message may execute leave alone (R173). -/

namespace Sys2Proof.Machine

variable {s t a : State} {x : Context}

/-- A bank over an item of a local message: it loses references, or leaves DRAINING by it. -/
def KeyBank.OnlyLoses (b c : KeyBank) : Prop :=
  ∃ n, c = { b with refs := n } ∧ n ≤ b.refs ∨ b.state = .draining ∧ c = .cleared

theorem KeyBank.OnlyLoses.refl (b : KeyBank) : b.OnlyLoses b := ⟨b.refs, .inl ⟨rfl, Nat.le_refl _⟩⟩

theorem KeyBank.release_onlyLoses (b : KeyBank) (n : Nat) : b.OnlyLoses (b.release n) := by
  rcases b.release_cases n with released | ⟨draining, _, cleared⟩
  · exact ⟨_, .inl ⟨released, Nat.sub_le _ _⟩⟩
  · exact ⟨0, .inr ⟨draining, cleared⟩⟩

/-- What an item of the local message with context `x` leaves of `s` (R173). -/
structure State.LeavesCentral (s : State) (x : Context) (t : State) : Prop where
  tables : t.rules = s.rules ∧ t.locators = s.locators ∧ t.destinations = s.destinations ∧ t.settings = s.settings
  keys : t.mgmtKeys = s.mgmtKeys
  events : t.eventMap = s.eventMap ∧ t.enables = s.enables
  sequences : t.lastRemote = s.lastRemote ∧ t.lastLocal = s.lastLocal
  tills : ∀ i : Fin 128, i.val < s.settings.localFloor → t.tills[i] = s.tills[i]
  banks : ∀ (k : Fin 16) (b : BankId), (s.bank k b).OnlyLoses (t.bank k b)
  context : ∀ y, t.context = some y → y.restartPending = x.restartPending ∧ y.pendingKeys = x.pendingKeys

theorem State.LeavesCentral.settles (h : s.LeavesCentral x a) (settled : SettlesTo a t) : s.LeavesCentral x t := by
  rw [settled.others]
  exact ⟨h.tables, h.keys, h.events, h.sequences, h.tills, h.banks, h.context⟩

/-- An answer adds to the response and moves on in the message. -/
theorem State.LeavesCentral.answer (h : s.LeavesCentral x a) (kind : Byte) (r : ResultCode) (body : Bytes) :
    s.LeavesCentral x (a.answer kind r body) := by
  refine ⟨h.tables, h.keys, h.events, h.sequences, h.tills, h.banks, fun y moved => ?_⟩
  obtain ⟨z, was, rfl⟩ := Option.map_eq_some_iff.mp moved
  exact h.context z was

theorem State.LeavesCentral.refl (context : s.context = some x) : s.LeavesCentral x s :=
  ⟨⟨rfl, rfl, rfl, rfl⟩, rfl, ⟨rfl, rfl⟩, ⟨rfl, rfl⟩, fun _ _ => rfl, fun _ _ => .refl _, fun y same => by
    obtain rfl := Option.some.inj (context.symm.trans same)
    exact ⟨rfl, rfl⟩⟩

theorem State.LeavesCentral.dropStage (h : s.LeavesCentral x a) : s.LeavesCentral x a.dropStage := by
  rw [State.dropStage_eq]
  exact ⟨h.tables, h.keys, h.events, h.sequences, h.tills, h.banks, h.context⟩

theorem State.LeavesCentral.clearStatuses (h : s.LeavesCentral x a) (named : Vector Bool 18) :
    s.LeavesCentral x (a.clearStatuses named) := by
  unfold State.clearStatuses
  exact ⟨h.tables, h.keys, h.events, h.sequences, h.tills, h.banks, h.context⟩

/-! ## The till items at or above the floor -/

theorem State.closeExchange_bank (a : State) (i : Fin 128) (k : Fin 16) (b : BankId) :
    (a.bank k b).OnlyLoses ((a.closeExchange i 0).bank k b) := by
  have released : ∀ (u v : State) (l : Fin 16) (c : BankId) (n : Nat), u.slots = a.slots →
      v.slots = (u.releaseRefs l c n).slots → (a.bank k b).OnlyLoses (v.bank k b) := fun u v l c n slots same => by
    have bank : v.bank k b = (u.releaseRefs l c n).bank k b := by simp only [State.bank, same]
    have was : ∀ k b, u.bank k b = a.bank k b := fun k b => by simp only [State.bank, slots]
    rw [bank]
    unfold State.releaseRefs
    rw [State.setBank_bank, was, was]
    split
    next named => obtain ⟨rfl, rfl⟩ := named; exact KeyBank.release_onlyLoses _ _
    · exact .refl _
  rcases a.closeExchange_cases i 0 with ⟨_, r⟩ | ⟨y, _, _, r⟩ | ⟨y, j, _, _, _, r⟩ <;> rw [r]
  · exact .refl _
  · exact released (a.setExchange i none) _ y.slot y.bank _ rfl rfl
  · exact released ((a.setExchange i none).removeJob j) _ y.slot y.bank 2 (State.removeJob_slots _ j)
      (State.admitWaiting_slots _)

/-- An entry at or above the floor closed and written (R52, R54). -/
theorem State.LeavesCentral.setTill (h : s.LeavesCentral x a) {i : Fin 128} (above : s.settings.localFloor ≤ i.val)
    (banks : ∀ k b, s.bank k b = a.bank k b) (e : TillEntry) : s.LeavesCentral x ((a.closeExchange i 0).setTill i e) := by
  obtain ⟨sl, w, v, m, fr, fs, shape⟩ := a.closeExchange_shape i 0
  refine ⟨?_, ?_, ?_, ?_, fun j below => ?_, fun k b => ?_, ?_⟩
  · rw [shape]; exact h.tables
  · rw [shape]; exact h.keys
  · rw [shape]; exact h.events
  · rw [shape]; exact h.sequences
  · have other : i ≠ j := fun same => by rw [← same] at below; omega
    rw [State.setTill, getElem_set_fin, if_neg other, shape, getElem_set_fin, if_neg other]
    exact h.tills j below
  · rw [banks]
    exact a.closeExchange_bank i k b
  · rw [shape]; exact h.context

/-! ## The items of a local message -/

/-- R173: the kinds that the local origin may execute are those of the read items, CLEAR_EVENTS, WRITE_TILL and
CLEAR_TILL. -/
theorem local_commands {i : Instr} {n floor : Nat} {body : Bytes} (named : (i, n) ∈ itemKinds)
    (may : LocalMay n floor body) :
    (∃ rule, ∀ s, exec i s = readItem n rule s) ∨
      (∃ rule : State → Bytes → Except ResultCode State,
        (∀ s, exec i s = writeItem n rule s) ∧
          (rule = (fun s b => .ok (s.clearStatuses (sourceSet b))) ∨
            (rule = State.writeTill ∨ rule = State.clearTill) ∧ (n = 4 ∨ n = 5) ∧ ∀ b ∈ body.head?, floor ≤ b.toNat)) := by
  simp only [itemKinds, List.mem_cons, List.not_mem_nil, or_false, Prod.mk.injEq] at named
  rcases may with read | rfl | ⟨rfl | rfl, floor⟩
  · simp only [List.mem_cons, List.not_mem_nil, or_false] at read
    refine .inl ?_
    rcases read with rfl | rfl | rfl | rfl | rfl | rfl | rfl | rfl <;>
      simp only [Nat.reduceEqDiff, and_false, and_true, false_or, or_false] at named <;> subst named
    · exact ⟨fun s _ => .ok (settingsBytes s.settings), fun _ => rfl⟩
    · exact ⟨fun s b => (bodyIndex 128 b).map fun i => tillBytes i s.tills[i], fun _ => rfl⟩
    · exact ⟨fun s b => (bodyIndex 16 b).map fun i => ruleBytes i s.rules[i], fun _ => rfl⟩
    · exact ⟨fun s b => (bodyIndex 8 b).map fun i => locatorBytes i s.locators[i], fun _ => rfl⟩
    · exact ⟨fun s b => (bodyIndex 4 b).map fun i => destinationBytes i s.destinations[i], fun _ => rfl⟩
    · exact ⟨fun s b => (bodyIndex 16 b).map fun i => slotBytes i s.slots[i], fun _ => rfl⟩
    · exact ⟨fun s _ => .ok s.eventsBytes, fun _ => rfl⟩
    · exact ⟨fun s _ => .ok (s.counters.toList.flatMap (beBytes 4)), fun _ => rfl⟩
  all_goals
    simp only [Nat.reduceEqDiff, and_false, and_true, false_or, or_false] at named
    subst named
  · exact .inr ⟨fun s b => .ok (s.clearStatuses (sourceSet b)), fun _ => rfl, .inl rfl⟩
  · exact .inr ⟨State.writeTill, fun _ => rfl, .inr ⟨.inl rfl, .inl rfl, floor⟩⟩
  · exact .inr ⟨State.clearTill, fun _ => rfl, .inr ⟨.inr rfl, .inr rfl, floor⟩⟩

theorem readItem_leavesCentral {code : Nat} {rule : State → Bytes → Except ResultCode Bytes}
    (context : s.context = some x) (e : readItem code rule s = .next t) : s.LeavesCentral x t := by
  have start := State.LeavesCentral.refl context
  rcases itemEvent_cases false (· == code) _ s with ⟨_, n⟩ | ⟨c, item, hand, _, ⟨r, _, n⟩ | ⟨_, n⟩⟩ <;>
    cases n.symm.trans e
  · exact start
  · rw [← State.dropStage_answer s c hand.2.1]
    exact (start.dropStage.answer _ _ _).settles (conclude_settles ..)
  · refine State.LeavesCentral.settles ?_ (conclude_settles ..)
    split
    · unfold State.answerRead
      dsimp only
      split <;> exact start.dropStage.answer _ _ _
    · exact start.dropStage.answer _ _ _

theorem writeItem_leavesCentral {code : Nat} {rule : State → Bytes → Except ResultCode State}
    (context : s.context = some x) (e : writeItem code rule s = .next t)
    (done : ∀ item u, s.InHand x item → item.kind.toNat = code → s.refusalOf x item = none →
      rule s.dropStage item.body = .ok u → s.LeavesCentral x u) : s.LeavesCentral x t := by
  have start := State.LeavesCentral.refl context
  rcases itemEvent_cases false (· == code) _ s with ⟨_, n⟩ | ⟨c, item, hand, kind, ⟨r, _, n⟩ | ⟨passes, n⟩⟩ <;>
    cases n.symm.trans e
  · exact start
  · rw [← State.dropStage_answer s c hand.2.1]
    exact (start.dropStage.answer _ _ _).settles (conclude_settles ..)
  · obtain rfl := Option.some.inj (context.symm.trans hand.2.1)
    refine State.LeavesCentral.settles ?_ (conclude_settles ..)
    split
    next u written => exact (done item u hand (by simpa using kind) passes written).answer _ _ _
    · exact start.dropStage.answer _ _ _

theorem State.form_of_passes {item : Item} (passes : s.refusalOf x item = none) :
    bodyForm item.kind.toNat item.body = some true := by
  unfold State.refusalOf at passes
  split at passes
  · split at passes
    · assumption
    · cases passes
  · cases passes

/-- The body of a till item begins with its index. -/
theorem head_of_till {n : Nat} {body : Bytes} (kinds : n = 4 ∨ n = 5) (form : bodyForm n body = some true) :
    byteAt body 0 ∈ body.head? := by
  cases body with
  | nil => rcases kinds with rfl | rfl <;> cases form
  | cons b rest => rfl

/-- An item command of a message of the local origin: refused, or one of those that R173 admits. -/
theorem local_item_leavesCentral {i : Instr} {n : Nat} (named : (i, n) ∈ itemKinds) (context : s.context = some x)
    (origin : x.origin = .store) (e : exec i s = .next t) : s.LeavesCentral x t := by
  have start := State.LeavesCentral.refl context
  obtain ⟨begins, act, event⟩ := exec_item named
  rcases itemEvent_cases begins (· == n) act s with ⟨_, r⟩ | ⟨c, item, hand, kind, ⟨r, _, n⟩ | ⟨passes, _⟩⟩
  · obtain rfl := Host.Outcome.next.inj (r.symm.trans ((event s).symm.trans e))
    exact start
  · obtain rfl := Host.Outcome.next.inj (n.symm.trans ((event s).symm.trans e))
    rw [← State.dropStage_answer s c hand.2.1]
    exact (start.dropStage.answer _ _ _).settles (conclude_settles ..)
  obtain rfl := Option.some.inj (context.symm.trans hand.2.1)
  obtain rfl : item.kind.toNat = n := by simpa using kind
  have may : LocalMay item.kind.toNat s.settings.localFloor item.body := by
    by_contra refused
    cases (State.refusalOf_notPermitted origin refused).symm.trans passes
  rcases local_commands named may with ⟨rule, reads⟩ | ⟨rule, writes, which⟩
  · exact readItem_leavesCentral context ((reads s).symm.trans e)
  refine writeItem_leavesCentral context ((writes s).symm.trans e) fun d u held same form done => ?_
  obtain rfl : item = d := Option.some.inj (hand.2.2.2.symm.trans held.2.2.2)
  rcases which with rfl | ⟨till, kinds, floor⟩
  · have cleared : u = s.dropStage.clearStatuses (sourceSet item.body) := (Except.ok.inj done).symm
    rw [cleared]
    exact start.dropStage.clearStatuses _
  have above : ∀ {k : Fin 128}, indexOf 128 (byteAt item.body 0) = some k → s.settings.localFloor ≤ k.val := by
    intro k index
    have named := floor (byteAt item.body 0) (head_of_till kinds (State.form_of_passes passes))
    unfold indexOf at index
    split at index
    · obtain rfl := Option.some.inj index
      exact named
    · cases index
  have banks : ∀ k b, s.bank k b = s.dropStage.bank k b := fun k b => by rw [State.dropStage_eq]; rfl
  rcases till with rfl | rfl
  · obtain ⟨k, f, index, _, _, rfl⟩ := State.writeTill_ok done
    exact start.dropStage.setTill (above index) banks _
  · obtain ⟨k, index, rfl⟩ := State.clearTill_ok done
    exact start.dropStage.setTill (above index) banks _

/-- An item of an unknown kind is refused whatever its origin. -/
theorem unknown_item_leavesCentral (context : s.context = some x) (e : exec .unknownItemKind s = .next t) :
    s.LeavesCentral x t := by
  have start := State.LeavesCentral.refl context
  have event : exec .unknownItemKind s =
      itemEvent false unknownKind (fun s _ item => s.dropStage.answer item.kind .badValue []) s := rfl
  rw [event] at e
  rcases itemEvent_cases false unknownKind _ s with ⟨_, n⟩ | ⟨c, item, hand, _, ⟨r, _, n⟩ | ⟨_, n⟩⟩ <;>
    cases n.symm.trans e
  · exact start
  · rw [← State.dropStage_answer s c hand.2.1]
    exact (start.dropStage.answer _ _ _).settles (conclude_settles ..)
  · exact (start.dropStage.answer _ _ _).settles (conclude_settles ..)

end Sys2Proof.Machine
end

section
/-! R173: the local origin. -/

open Sys2Proof Sys2Proof.Machine

/-- Settles O7: a local message's item is refused, reads, clears statuses, or writes a till at or above the floor. -/
theorem localItemsLeaveCentralStateAlone : Obligations.LocalItemsLeaveCentralStateAlone := by
  intro c s t x command context origin e
  have leaves : s.LeavesCentral x t := by
    by_cases unknown : c = .unknownItemKind
    · subst unknown
      exact unknown_item_leavesCentral context e
    · have named : ∃ n, (c, n) ∈ itemKinds := by
        simp only [List.mem_cons, List.not_mem_nil, or_false, unknown] at command
        simp only [itemKinds, List.mem_cons, List.not_mem_nil, or_false, Prod.mk.injEq]
        rcases command with rfl | rfl | rfl | rfl | rfl | rfl | rfl | rfl | rfl | rfl | rfl | rfl | rfl | rfl | rfl |
          rfl | rfl | rfl | rfl | rfl | rfl | rfl | rfl | rfl | rfl | rfl | rfl | rfl | rfl <;> simp
      obtain ⟨n, named⟩ := named
      exact local_item_leavesCentral named context origin e
  obtain ⟨⟨rules, locators, destinations, settings⟩, keys, ⟨map, enables⟩, ⟨remote, store⟩, tills, banks, moved⟩ := leaves
  exact ⟨rules, locators, destinations, settings, keys, map, enables, remote, store, tills, banks, moved⟩
end

section
/-! SUPPORT. Byte strings laid out in big-endian fields (section 3.1 of the introduction). -/

namespace Sys2Proof.Machine

/-! ## Numbers in bytes -/

@[simp] theorem beBytes_length (w n : Nat) : (beBytes w n).length = w := by
  induction w with
  | zero => rfl
  | succ w ih => simp [beBytes, ih]

theorem beBytes_one (n : Nat) : beBytes 1 n = [BitVec.ofNat 8 n] := by
  simp [beBytes]

theorem beNat_foldl (acc : Nat) (bs : Bytes) :
    bs.foldl (fun acc b => acc * 256 + b.toNat) acc = acc * 256 ^ bs.length + beNat bs := by
  unfold beNat
  induction bs generalizing acc with
  | nil => simp
  | cons b bs ih =>
    rw [List.foldl_cons, List.foldl_cons, ih, ih (0 * 256 + b.toNat), List.length_cons, pow_succ]
    ring

theorem beNat_cons (b : Byte) (bs : Bytes) : beNat (b :: bs) = b.toNat * 256 ^ bs.length + beNat bs := by
  rw [beNat, List.foldl_cons, beNat_foldl]
  simp

/-- A number put into `w` bytes is read back modulo 256 to the `w`. -/
theorem beNat_beBytes (w n : Nat) : beNat (beBytes w n) = n % 256 ^ w := by
  induction w with
  | zero => simp [beBytes, beNat, Nat.mod_one]
  | succ w ih =>
    rw [beBytes, beNat_cons, beBytes_length, ih, pow_succ, Nat.mod_mul, BitVec.toNat_ofNat, Nat.add_comm, Nat.mul_comm]

/-! ## Fields of a concatenation -/

theorem slice_append_right {a b : Bytes} {o : Nat} (w : Nat) (past : a.length ≤ o) :
    slice (a ++ b) o w = slice b (o - a.length) w := by
  rw [slice, List.drop_append, List.drop_of_length_le past, List.nil_append, slice]

theorem slice_append_left {a b : Bytes} {o w : Nat} (within : o + w ≤ a.length) : slice (a ++ b) o w = slice a o w := by
  rw [slice, slice, List.drop_append_of_le_length (by omega), List.take_append_of_le_length (by simp; omega)]

theorem fieldNat_append_right {a b : Bytes} {o : Nat} (w : Nat) (past : a.length ≤ o) :
    fieldNat (a ++ b) o w = fieldNat b (o - a.length) w := by
  rw [fieldNat, slice_append_right w past, fieldNat]

theorem fieldNat_append_left {a b : Bytes} {o w : Nat} (within : o + w ≤ a.length) :
    fieldNat (a ++ b) o w = fieldNat a o w := by
  rw [fieldNat, slice_append_left within, fieldNat]

theorem fieldNat_beBytes (w n : Nat) : fieldNat (beBytes w n) 0 w = n % 256 ^ w := by
  rw [fieldNat, slice, List.drop_zero, List.take_of_length_le (by simp), beNat_beBytes]

/-- Fields, each a width and a value, one after the other. -/
def packed (fs : List (Nat × Nat)) : Bytes := fs.flatMap fun f => beBytes f.1 f.2

/-- The same fields with their offsets, from `o` on. -/
def layout : Nat → List (Nat × Nat) → List (Nat × Nat × Nat)
  | _, [] => []
  | o, (w, n) :: fs => (o, w, n) :: layout (o + w) fs

theorem packed_cons (f : Nat × Nat) (fs : List (Nat × Nat)) : packed (f :: fs) = beBytes f.1 f.2 ++ packed fs := rfl

theorem packed_append (fs gs : List (Nat × Nat)) : packed (fs ++ gs) = packed fs ++ packed gs := List.flatMap_append

theorem packed_length (fs : List (Nat × Nat)) : (packed fs).length = (fs.map Prod.fst).sum := by
  simp [packed, List.length_flatMap]

/-- Each field is read back at its offset. -/
theorem fieldNat_packed {o : Nat} {pre : Bytes} (start : pre.length = o) (fs : List (Nat × Nat)) (post : Bytes) :
    ∀ f ∈ layout o fs, fieldNat (pre ++ packed fs ++ post) f.1 f.2.1 = f.2.2 % 256 ^ f.2.1 := by
  induction fs generalizing o pre with
  | nil => nofun
  | cons g fs ih =>
    obtain ⟨w, n⟩ := g
    intro f held
    rw [packed_cons]
    rcases List.mem_cons.mp held with rfl | later
    · rw [List.append_assoc, fieldNat_append_right _ (by omega), start, Nat.sub_self, List.append_assoc,
        fieldNat_append_left (by simp), fieldNat_beBytes]
    · have moved := ih (o := o + w) (pre := pre ++ beBytes w n) (by simp [start]) f later
      rw [← moved]
      simp only [List.append_assoc]

/-- A body made of fields lays them out (Table 11-8). -/
theorem laysOut_packed {body : Bytes} {length : Nat} {fields : List (Nat × Nat × Nat)} (fs : List (Nat × Nat))
    (made : body = packed fs) (sum : (fs.map Prod.fst).sum = length) (offsets : layout 0 fs = fields) :
    LaysOut body length fields := by
  subst made
  refine ⟨(packed_length fs).trans sum, fun f held => ?_⟩
  have read := fieldNat_packed (pre := []) rfl fs [] f (offsets ▸ held)
  simpa using read

end Sys2Proof.Machine
end

section
/-! SUPPORT. The bodies that items return as fields (Tables 11-7 and 11-8). -/

namespace Sys2Proof.Machine

theorem tillBytes_eq (i : Fin 128) (e : TillEntry) :
    tillBytes i e =
      packed [(1, i.val), (1, if e.valid then 1 else 0), (2, e.number), (4, e.ip.toNat), (6, e.mac.toNat), (1, e.slot.val),
        (1, e.timeoutCode.toNat), (2, e.wrapsSent), (2, e.refusals), (2, e.repliesLost),
        (1, (phaseCode e.exchange).toNat)] := by
  have valid : beBytes 1 (if e.valid then 1 else 0) = [if e.valid then 1 else 0] := by
    cases e.valid <;> rfl
  simp only [tillBytes, packed, List.flatMap_cons, List.flatMap_nil, valid, beBytes_one, BitVec.ofNat_toNat, BitVec.setWidth_eq, List.append_assoc,
    List.cons_append, List.nil_append, List.append_nil]

theorem bankBytes_eq (b : KeyBank) :
    bankBytes b =
      packed [(1, b.state.code.toNat), (1, b.generation.toNat), (1, b.ceilingCode.val), (4, b.counter), (4, b.remaining),
        (2, b.refs), (3, b.wrapCheck.toNat), (3, b.surCheck.toNat)] := by
  simp only [bankBytes, packed, List.flatMap_cons, List.flatMap_nil, beBytes_one, BitVec.ofNat_toNat, BitVec.setWidth_eq, List.append_assoc,
    List.cons_append, List.nil_append, List.append_nil]

theorem destinationBytes_eq (i : Fin 4) (d : Option Destination) :
    destinationBytes i d =
      packed [(1, i.val), (1, if d.isSome then 1 else 0), (4, d.elim 0 (·.ip.toNat)), (2, d.elim 0 (·.port.toNat)),
        (6, d.elim 0 (·.mac.toNat))] := by
  cases d with
  | none =>
    have zeros : beBytes 4 0 ++ (beBytes 2 0 ++ beBytes 6 0) = List.replicate 12 0 := by decide
    simp only [destinationBytes, packed, List.flatMap_cons, List.flatMap_nil, beBytes_one, Option.elim, List.append_nil,
      zeros, List.cons_append, List.nil_append]
    rfl
  | some d =>
    simp only [destinationBytes, packed, List.flatMap_cons, List.flatMap_nil, beBytes_one, Option.elim, List.append_nil,
      List.cons_append, List.nil_append, List.append_assoc]
    rfl

theorem slotBytes_eq (i : Fin 16) (k : KeySlot) :
    slotBytes i k = packed ((1, i.val) :: ([(1, k.a.state.code.toNat), (1, k.a.generation.toNat), (1, k.a.ceilingCode.val),
        (4, k.a.counter), (4, k.a.remaining), (2, k.a.refs), (3, k.a.wrapCheck.toNat), (3, k.a.surCheck.toNat)] ++
      [(1, k.b.state.code.toNat), (1, k.b.generation.toNat), (1, k.b.ceilingCode.val), (4, k.b.counter),
        (4, k.b.remaining), (2, k.b.refs), (3, k.b.wrapCheck.toNat), (3, k.b.surCheck.toNat)])) := by
  rw [packed_cons, packed_append, ← bankBytes_eq, ← bankBytes_eq, beBytes_one]
  rfl

end Sys2Proof.Machine
end

section
/-! SUPPORT. Read items of either origin (R172). -/

namespace Sys2Proof.Machine

variable {s : State} {c : Context} {item : Item} {i : Instr} {code : Nat}

/-- A read item whose rule answers a body. -/
theorem answersRead_of_rule {rule : State → Bytes → Except ResultCode Bytes} {body : Bytes}
    (event : exec i s = readItem code rule s) (hand : s.InHand c item) (kind : item.kind.toNat = code)
    (read : code ∈ [1, 3, 6, 9, 12, 15, 21, 25]) (form : bodyForm code item.body = some true)
    (answer : rule s.dropStage item.body = .ok body) : AnswersRead i s c item body := by
  have passes : s.refusalOf c item = none := State.refusalOf_none (.inr (.inl (kind ▸ read))) (kind ▸ form)
  have done := event.trans (readItem_done code rule s c item body hand kind passes answer)
  refine ⟨fun fits => ?_, fun long => ?_⟩
  · rw [if_pos fits] at done
    exact ⟨_, done, conclude_settles ..⟩
  · rw [if_neg long] at done
    exact ⟨_, done, conclude_settles ..⟩

theorem answers_of_rule {rule : State → Bytes → Except ResultCode Bytes} {r : ResultCode}
    (event : exec i s = readItem code rule s) (hand : s.InHand c item) (kind : item.kind.toNat = code)
    (read : code ∈ [1, 3, 6, 9, 12, 15, 21, 25]) (form : bodyForm code item.body = some true)
    (answer : rule s.dropStage item.body = .error r) : Answers i s c item r [] := by
  have passes : s.refusalOf c item = none := State.refusalOf_none (.inr (.inl (kind ▸ read))) (kind ▸ form)
  exact ⟨_, event.trans (readItem_refused code rule s c item r hand kind passes answer), conclude_settles ..⟩

/-- A read item of an indexed table: its entry, or BAD_INDEX. -/
theorem indexed_read {n : Nat} {entry : State → Fin n → Bytes} {b : Byte}
    (event : exec i s = readItem code (fun s b => (bodyIndex n b).map (entry s)) s) (hand : s.InHand c item)
    (kind : item.kind = BitVec.ofNat 8 code) (read : code ∈ [3, 6, 9, 12, 15]) (body : item.body = [b])
    (same : ∀ k, entry s.dropStage k = entry s k) :
    (∀ k : Fin n, b.toNat = k.val → AnswersRead i s c item (entry s k)) ∧ (n ≤ b.toNat → Answers i s c item .badIndex []) := by
  have small : code < 256 := by
    simp only [List.mem_cons, List.not_mem_nil, or_false] at read
    omega
  have number : item.kind.toNat = code := by rw [kind, BitVec.toNat_ofNat, Nat.mod_eq_of_lt small]
  have reads : code ∈ [1, 3, 6, 9, 12, 15, 21, 25] := by
    simp only [List.mem_cons, List.not_mem_nil, or_false] at read ⊢
    omega
  have form : bodyForm code item.body = some true := by
    simp only [List.mem_cons, List.not_mem_nil, or_false] at read
    rw [body]
    rcases read with rfl | rfl | rfl | rfl | rfl <;> rfl
  refine ⟨fun k named => answersRead_of_rule event hand number reads form ?_, fun out =>
    answers_of_rule event hand number reads form ?_⟩
  · rw [body, bodyIndex, show byteAt [b] 0 = b from rfl, indexOf_of_toNat_eq named]
    exact congrArg Except.ok (same k)
  · rw [body, bodyIndex, show byteAt [b] 0 = b from rfl, indexOf_of_le out]
    rfl

/-- The fields of a bank in the READ_SLOT body. -/
theorem KeyBank.fields_eq (b : KeyBank) (o : Nat) :
    b.fields o = [(o, 1, b.state.code.toNat), (o + 1, 1, b.generation.toNat), (o + 2, 1, b.ceilingCode.val),
      (o + 3, 4, b.counter), (o + 7, 4, b.remaining), (o + 11, 2, b.refs), (o + 13, 3, b.wrapCheck.toNat),
      (o + 16, 3, b.surCheck.toNat)] := by
  obtain ⟨state⟩ := b
  cases state <;> rfl

end Sys2Proof.Machine
end

section
/-! R40, R42, R55, R75, R172, R181, R183, R191, R198: read items. -/

open Sys2Proof Sys2Proof.Machine

/-- Settles O47: the bodies are fields one after the other, and each read item answers its rule's body. -/
theorem readItemsReturnTheState : Obligations.ReadItemsReturnTheState := by
  refine ⟨fun i e => ?_, fun i k => ?_, fun i d => ?_, fun s c item hand => ⟨fun kind body => ?_, fun kind body => ?_,
    fun kind body => ?_, fun n body => ⟨fun kind => ?_, fun kind => ?_, fun kind => ?_, fun kind => ?_, fun kind => ?_⟩⟩⟩
  case refine_1 =>
    refine laysOut_packed _ (tillBytes_eq i e) rfl ?_
    obtain ⟨valid, number, ip, mac, slot, timeout, wraps, refusals, lost, exchange⟩ := e
    cases exchange with
    | none => rfl
    | some x => obtain ⟨phase⟩ := x; cases phase <;> rfl
  case refine_2 =>
    refine laysOut_packed _ (slotBytes_eq i k) (by simp) ?_
    simp only [layout, KeyBank.fields_eq, List.cons_append, List.nil_append]
  case refine_3 => exact laysOut_packed _ (destinationBytes_eq i d) rfl rfl
  case refine_4 =>
    have event : exec .readSettings s = readItem 1 (fun s _ => .ok (settingsBytes s.settings)) s := rfl
    exact answersRead_of_rule event hand (by rw [kind]; rfl) (by decide) (by rw [body]; rfl) (by rw [State.dropStage_eq])
  case refine_5 =>
    have event : exec .readEvents s = readItem 21 (fun s _ => .ok s.eventsBytes) s := rfl
    exact answersRead_of_rule event hand (by rw [kind]; rfl) (by decide) (by rw [body]; rfl)
      (by rw [State.dropStage_eq]; rfl)
  case refine_6 =>
    have event : exec .readCounters s = readItem 25 (fun s _ => .ok (s.counters.toList.flatMap (beBytes 4))) s := rfl
    exact answersRead_of_rule event hand (by rw [kind]; rfl) (by decide) (by rw [body]; rfl) (by rw [State.dropStage_eq])
  case refine_7 =>
    have event : exec .readTill s =
      readItem 3 (fun s b => (bodyIndex 128 b).map fun (i : Fin 128) => tillBytes i s.tills[i]) s := rfl
    exact indexed_read event hand kind (by decide) body fun k => by rw [State.dropStage_eq]
  case refine_8 =>
    have event : exec .readRule s =
      readItem 6 (fun s b => (bodyIndex 16 b).map fun (i : Fin 16) => ruleBytes i s.rules[i]) s := rfl
    exact indexed_read event hand kind (by decide) body fun k => by rw [State.dropStage_eq]
  case refine_9 =>
    have event : exec .readLocator s =
      readItem 9 (fun s b => (bodyIndex 8 b).map fun (i : Fin 8) => locatorBytes i s.locators[i]) s := rfl
    exact indexed_read event hand kind (by decide) body fun k => by rw [State.dropStage_eq]
  case refine_10 =>
    have event : exec .readDestination s =
      readItem 12 (fun s b => (bodyIndex 4 b).map fun (i : Fin 4) => destinationBytes i s.destinations[i]) s := rfl
    exact indexed_read event hand kind (by decide) body fun k => by rw [State.dropStage_eq]
  case refine_11 =>
    have event : exec .readSlot s =
      readItem 15 (fun s b => (bodyIndex 16 b).map fun (i : Fin 16) => slotBytes i s.slots[i]) s := rfl
    exact indexed_read event hand kind (by decide) body fun k => by rw [State.dropStage_eq]
end

section
/-! SUPPORT. Write items of either origin, in the words of the claims (R171). -/

namespace Sys2Proof.Machine

variable {s u a : State} {c : Context} {item : Item} {i : Instr} {code : Nat} {b : Bytes}

/-- A write item whose rule writes the state `u`. -/
theorem writes_of_rule {rule : State → Bytes → Except ResultCode State} (event : exec i s = writeItem code rule s)
    (hand : s.InHand c item) (kind : item.kind.toNat = code) (passes : s.refusalOf c item = none)
    (done : rule s.dropStage item.body = .ok u) (same : u.answer item.kind .done [] = a) :
    ∃ t, exec i s = .next t ∧ SettlesTo a t :=
  ⟨_, event.trans (writeItem_done code rule s u c item hand kind passes done), same ▸ conclude_settles ..⟩

/-- A write item that its rule refuses. -/
theorem refuses_of_rule {rule : State → Bytes → Except ResultCode State} {r : ResultCode}
    (event : exec i s = writeItem code rule s) (hand : s.InHand c item) (kind : item.kind.toNat = code)
    (passes : s.refusalOf c item = none) (refused : rule s.dropStage item.body = .error r) : Answers i s c item r [] :=
  ⟨_, event.trans (writeItem_refused code rule s c item r hand kind passes refused), conclude_settles ..⟩

/-- The remote item in hand, of a body of its form, comes to its rule. -/
theorem State.RemoteItem.passes (remote : s.RemoteItem c item code b) (form : bodyForm code b = some true) :
    s.refusalOf c item = none := by
  obtain ⟨_, origin, rfl, rfl⟩ := remote
  exact s.refusalOf_remote c item origin form

theorem State.RemoteItem.writes {rule : State → Bytes → Except ResultCode State} (remote : s.RemoteItem c item code b)
    (event : exec i s = writeItem code rule s) (form : bodyForm code b = some true) (done : rule s.dropStage b = .ok u)
    (same : u.answer item.kind .done [] = a) : ∃ t, exec i s = .next t ∧ SettlesTo a t := by
  have passes := remote.passes form
  obtain ⟨hand, _, kind, rfl⟩ := remote
  exact writes_of_rule event hand kind passes done same

theorem State.RemoteItem.refuses {rule : State → Bytes → Except ResultCode State} {r : ResultCode}
    (remote : s.RemoteItem c item code b) (event : exec i s = writeItem code rule s)
    (form : bodyForm code b = some true) (refused : rule s.dropStage b = .error r) : Answers i s c item r [] := by
  have passes := remote.passes form
  obtain ⟨hand, _, kind, rfl⟩ := remote
  exact refuses_of_rule event hand kind passes refused

/-! ## Flags and indices -/

theorem flagOf_of {v : Byte} (flag : v = 0 ∨ v = 1) : flagOf v = some (v == 1) := by
  rcases flag with rfl | rfl <;> rfl

theorem flagOf_eq_none {v : Byte} (other : ¬ (v = 0 ∨ v = 1)) : flagOf v = none := by
  obtain ⟨zero, one⟩ := not_or.mp other
  rw [flagOf, if_neg zero, if_neg one]

theorem bodyIndex_of {n : Nat} {k : Fin n} (named : (byteAt b 0).toNat = k.val) : bodyIndex n b = .ok k := by
  rw [bodyIndex, indexOf_of_toNat_eq named]

theorem bodyIndex_out {n : Nat} (out : n ≤ (byteAt b 0).toNat) : bodyIndex n b = .error .badIndex := by
  rw [bodyIndex, indexOf_of_le out]

/-! ## Settings and destinations (R181, R183) -/

/-- The values of a settings body that WRITE_SETTINGS takes (R181). -/
def SettingsInRange (b : Bytes) : Prop :=
  (byteAt b 21 = 0 ∨ byteAt b 21 = 1) ∧ fieldNat b 17 2 ≤ 4094 ∧ fieldNat b 19 2 ≤ 4094 ∧
    ((byteAt b 16).toNat ≤ 3 ∨ byteAt b 16 = 0xFF)

/-- The settings that a body in range gives. -/
def settingsOf (b : Bytes) : Settings :=
  { serviceAddress := BitVec.ofNat 32 (fieldNat b 0 4)
    servicePort := BitVec.ofNat 16 (fieldNat b 4 2)
    lineAddress := BitVec.ofNat 32 (fieldNat b 6 4)
    replyPort := BitVec.ofNat 16 (fieldNat b 10 2)
    managementPort := BitVec.ofNat 16 (fieldNat b 12 2)
    noticePort := BitVec.ofNat 16 (fieldNat b 14 2)
    noticeDestination := if h : (byteAt b 16).toNat < 4 then some ⟨(byteAt b 16).toNat, h⟩ else none
    tillVlan := fieldNat b 17 2, lineVlan := fieldNat b 19 2
    bridgeMode := if byteAt b 21 = 1 then .guarded else .closed
    warnMargin := fieldNat b 22 2, localFloor := min (byteAt b 24).toNat 128 }

theorem parseSettings_of_inRange (h : SettingsInRange b) : parseSettings b = some (settingsOf b) := by
  obtain ⟨flag, till, line, destination⟩ := h
  have named : (indexOf 4 (byteAt b 16)).isSome = true ∨ byteAt b 16 = 0xFF := by
    rcases destination with small | none
    · exact .inl (by simp [indexOf, Nat.lt_succ_of_le small])
    · exact .inr none
  unfold parseSettings
  rw [flagOf_of flag]
  simp only [Config.vlanMax, till, line, named, and_self, if_true, fieldNat_byte, beq_iff_eq]
  rfl

theorem parseSettings_of_not_inRange (h : ¬ SettingsInRange b) : parseSettings b = none := by
  unfold parseSettings
  by_cases flag : byteAt b 21 = 0 ∨ byteAt b 21 = 1
  · have beyond : ¬ (fieldNat b 17 2 ≤ Config.vlanMax ∧ fieldNat b 19 2 ≤ Config.vlanMax ∧
        ((indexOf 4 (byteAt b 16)).isSome = true ∨ byteAt b 16 = 0xFF)) := by
      rintro ⟨till, line, destination⟩
      refine h ⟨flag, till, line, destination.imp_left fun named => ?_⟩
      unfold indexOf at named
      split at named
      · omega
      · cases named
    rw [flagOf_of flag]
    simp only [if_neg beyond]
  · rw [flagOf_eq_none flag]

/-- The context remembers a management port that is replaced (R188). -/
theorem Context.replacing_eq (c : Context) (old new : UdpPort) :
    c.replacing old new = { c with replacedPorts := if new = old then c.replacedPorts else old :: c.replacedPorts } := by
  unfold Context.replacing
  by_cases same : old = new
  · rw [if_pos same, if_pos same.symm]
  · rw [if_neg same, if_neg (Ne.symm same)]

/-- The settings replaced and the item answered (R181). -/
theorem State.answer_writtenSettings (context : s.context = some c) (x : Settings) (kind : Byte) :
    ({ s.dropStage with
        settings := x
        context := s.dropStage.context.map fun c =>
          c.replacing s.dropStage.settings.managementPort x.managementPort } : State).answer kind .done [] =
      { s.answered
          { c with
            replacedPorts := if x.managementPort = s.settings.managementPort then c.replacedPorts
              else s.settings.managementPort :: c.replacedPorts } kind .done [] with
        settings := x } := by
  rw [State.dropStage_eq]
  simp only [State.answer, State.answered, context, Option.map_some, Context.replacing_eq]
  rfl

end Sys2Proof.Machine
end

section
/-! R181, R183: settings and destinations. -/

open Sys2Proof Sys2Proof.Machine

/-- Settles O48: the parser of the settings takes the bodies in range and no other, and the destination items have no
check but that of the index. -/
theorem settingsAndDestinationsAreWritten : Obligations.SettingsAndDestinationsAreWritten := by
  intro s c item b
  refine ⟨fun remote length => ⟨fun ok => ?_, fun ok => ?_⟩, fun remote length => ⟨fun i named => ?_, fun out => ?_⟩,
    fun remote length => ⟨fun i named => ?_, fun out => ?_⟩⟩
  · have done : s.dropStage.writeSettings b = .ok
        { s.dropStage with
          settings := settingsOf b
          context := s.dropStage.context.map fun c =>
            c.replacing s.dropStage.settings.managementPort (settingsOf b).managementPort } := by
      rw [State.writeSettings, parseSettings_of_inRange ok]
    refine remote.writes rfl (by simp [bodyForm, length]) done ?_
    exact State.answer_writtenSettings remote.1.2.1 _ _
  · refine remote.refuses rfl (by simp [bodyForm, length]) ?_
    rw [State.writeSettings, parseSettings_of_not_inRange ok]
  · refine remote.writes rfl (by simp [bodyForm, length]) (by rw [State.writeDestination, bodyIndex_of named]; rfl) ?_
    have context := remote.1.2.1
    rw [State.dropStage_eq]
    simp only [State.answer, State.answered, context]
    rfl
  · exact remote.refuses rfl (by simp [bodyForm, length]) (by rw [State.writeDestination, bodyIndex_out out]; rfl)
  · refine remote.writes rfl (by simp [bodyForm, length]) (by rw [State.clearDestination, bodyIndex_of named]; rfl) ?_
    have context := remote.1.2.1
    rw [State.dropStage_eq]
    simp only [State.answer, State.answered, context]
    rfl
  · exact remote.refuses rfl (by simp [bodyForm, length]) (by rw [State.clearDestination, bodyIndex_out out]; rfl)
end

section
/-! SUPPORT. The till items (R52 to R54), and a close beside the load state. -/

namespace Sys2Proof.Machine

variable {s : State} {c : Context} {item : Item} {b : Bytes} {i : Fin 128}

/-! ## The load state is no part of the engine -/

/-- The state with another load state. -/
def State.withLoad (s : State) (l : LoadState) : State := { s with load := l }

theorem State.dropStage_withLoad (s : State) : s.dropStage = s.withLoad s.load.dropped := s.dropStage_eq

theorem State.takeOn_withLoad (s : State) (l : LoadState) (lane : Fin 4) :
    (s.withLoad l).takeOn lane = (s.takeOn lane).withLoad l := by
  unfold State.takeOn
  change (match s.waiting with
    | [] => s.withLoad l
    | j :: rest => _) = _
  cases s.waiting <;> rfl

theorem State.takeJob_withLoad (s : State) (l : LoadState) : (s.withLoad l).takeJob = s.takeJob.withLoad l := by
  unfold State.takeJob
  change (match firstFree s.lanes with
    | none => s.withLoad l
    | some lane => (s.withLoad l).takeOn lane) = _
  cases firstFree s.lanes with
  | none => rfl
  | some lane => exact s.takeOn_withLoad l lane

theorem State.enterJob_withLoad (s : State) (l : LoadState) (j : Job) :
    (s.withLoad l).enterJob j = (s.enterJob j).withLoad l :=
  State.takeJob_withLoad { s with waiting := s.waiting ++ [j] } l

theorem State.admitWaiting_withLoad (s : State) (l : LoadState) :
    (s.withLoad l).admitWaiting = s.admitWaiting.withLoad l := by
  unfold State.admitWaiting
  change (match s.mgmtWaiting with
    | none => s.withLoad l
    | some j => if s.occupied < Config.queueEntries then
        (({ s with mgmtWaiting := none } : State).withLoad l).enterJob j else s.withLoad l) = _
  cases s.mgmtWaiting with
  | none => rfl
  | some j =>
    dsimp only
    split
    · exact State.enterJob_withLoad _ l j
    · rfl

theorem State.removeJob_withLoad (s : State) (l : LoadState) (j : Job) :
    (s.withLoad l).removeJob j = (s.removeJob j).withLoad l := by
  unfold State.removeJob
  dsimp only
  cases j.work.frame <;> rfl

/-- A close does not look at the load state (R107). -/
theorem State.closeExchange_withLoad (s : State) (l : LoadState) (i : Fin 128) (n : Nat) :
    (s.withLoad l).closeExchange i n = (s.closeExchange i n).withLoad l := by
  unfold State.closeExchange
  change (match s.tills[i].exchange with
    | none => s.withLoad l
    | some x => _) = _
  cases s.tills[i].exchange with
  | none => rfl
  | some x =>
    dsimp only
    change (match (s.setExchange i none).waiting.find? (fun j => decide (x.job = some j.id)) with
      | none => ((s.setExchange i none).withLoad l).releaseRefs x.slot x.bank (1 + n)
      | some j => ((((s.setExchange i none).withLoad l).removeJob j).releaseRefs x.slot x.bank 2).admitWaiting) = _
    cases (s.setExchange i none).waiting.find? (fun j => decide (x.job = some j.id)) with
    | none => rfl
    | some j =>
      dsimp only
      rw [State.removeJob_withLoad]
      exact State.admitWaiting_withLoad (((s.setExchange i none).removeJob j).releaseRefs x.slot x.bank 2) l

theorem State.closeExchange_context (s : State) (i : Fin 128) (n : Nat) : (s.closeExchange i n).context = s.context := by
  obtain ⟨sl, w, v, m, fr, fs, h⟩ := s.closeExchange_shape i n
  rw [h]

theorem State.closeExchange_load (s : State) (i : Fin 128) (n : Nat) : (s.closeExchange i n).load = s.load := by
  obtain ⟨sl, w, v, m, fr, fs, h⟩ := s.closeExchange_shape i n
  rw [h]

/-- A till closed, written and answered (R52, R54, R179). -/
theorem State.answer_setTill (context : s.context = some c) (i : Fin 128) (e : TillEntry) (kind : Byte) :
    ((s.dropStage.closeExchange i 0).setTill i e).answer kind .done [] =
      { (s.closeExchange i 0).answered c kind .done [] with tills := (s.closeExchange i 0).tills.set i e } := by
  rw [State.dropStage_withLoad, State.closeExchange_withLoad]
  have kept : (s.closeExchange i 0).context = some c := (s.closeExchange_context i 0).trans context
  have load : (s.closeExchange i 0).load = s.load := s.closeExchange_load i 0
  simp only [State.answer, State.answered, State.setTill, State.withLoad, kept, load]
  rfl

/-! ## The checks of WRITE_TILL (R52) -/

theorem State.tillTaken_iff (s : State) (i : Fin 128) (f : TillFields) :
    s.tillTaken i f = true ↔
      ∃ j : Fin 128, j ≠ i ∧ s.tills[j].valid = true ∧ (s.tills[j].ip = f.ip ∨ s.tills[j].number = f.number) := by
  simp [State.tillTaken, and_assoc]

/-- WRITE_TILL where every check passes (R52). -/
theorem State.writeTill_of {f : TillFields} (named : (byteAt b 0).toNat = i.val) (parsed : parseTill b = some f)
    (free : s.tillTaken i f = false) :
    s.writeTill b = .ok ((s.closeExchange i 0).setTill i ((s.closeExchange i 0).tills[i].write f)) := by
  rw [State.writeTill, indexOf_of_toNat_eq named, parsed]
  simp only [free, Bool.false_eq_true, if_false]

/-- A closed entry written over (R53). -/
theorem TillEntry.write_closed (e : TillEntry) (f : TillFields) :
    ({ e with exchange := none } : TillEntry).write f =
      { valid := true, number := f.number, ip := f.ip, mac := f.mac, slot := f.slot, timeoutCode := f.timeoutCode
        wrapsSent := if e.valid && e.number == f.number then e.wrapsSent else 0
        refusals := if e.valid && e.number == f.number then e.refusals else 0
        repliesLost := if e.valid && e.number == f.number then e.repliesLost else 0, exchange := none } := by
  unfold TillEntry.write
  dsimp only
  split <;> rfl

/-- The fields of a till body whose number and key slot are in range. -/
theorem parseTill_of {k : Fin 16} (low : 1 ≤ fieldNat b 1 2) (high : fieldNat b 1 2 ≤ 4095)
    (slot : (byteAt b 13).toNat = k.val) :
    parseTill b = some
      { number := fieldNat b 1 2, ip := BitVec.ofNat 32 (fieldNat b 3 4), mac := BitVec.ofNat 48 (fieldNat b 7 6)
        slot := k, timeoutCode := byteAt b 14 } := by
  unfold parseTill
  rw [indexOf_of_toNat_eq slot]
  exact if_pos ⟨low, high⟩

theorem parseTill_eq_none (out : fieldNat b 1 2 = 0 ∨ 4095 < fieldNat b 1 2 ∨ 16 ≤ (byteAt b 13).toNat) :
    parseTill b = none := by
  unfold parseTill
  split
  · rfl
  next k named =>
    refine if_neg ?_
    have small : (byteAt b 13).toNat < 16 := by
      unfold indexOf at named
      split at named
      · assumption
      · cases named
    unfold Config.tillNumberMax
    omega

end Sys2Proof.Machine
end

section
/-! R52 to R54: till items. -/

open Sys2Proof Sys2Proof.Machine

/-- Settles O49: the rule's checks are the statement's cases in order, and the write keeps the statistics of a valid entry of
the same number. -/
theorem tillItemsCheckCloseAndWrite : Obligations.TillItemsCheckCloseAndWrite := by
  intro s c item hand may
  have context := hand.2.1
  have floor : ∀ n, n = 4 ∨ n = 5 → c.origin = .remote ∨ LocalMay n s.settings.localFloor item.body := fun n kinds =>
    may.imp_right fun above => .inr (.inr ⟨kinds, fun b first => byteAt_head first ▸ above⟩)
  refine ⟨fun kind length => ?_, fun kind length => ?_⟩
  · have number : item.kind.toNat = 4 := by rw [kind]; rfl
    have passes : s.refusalOf c item = none := by
      refine State.refusalOf_none (number ▸ floor 4 (.inl rfl)) ?_
      rw [number]
      simp [bodyForm, length]
    have event : exec .writeTill s = writeItem 4 State.writeTill s := rfl
    have tills : s.dropStage.tills = s.tills := by rw [State.dropStage_eq]
    refine ⟨fun out => ?_, fun i named => ⟨fun range => ?_, fun k low high slot => ⟨fun taken => ?_, fun free => ?_⟩⟩⟩
    · exact refuses_of_rule event hand number passes (by rw [State.writeTill, indexOf_of_le out])
    · exact refuses_of_rule event hand number passes (by
        rw [State.writeTill, indexOf_of_toNat_eq named, parseTill_eq_none range])
    · refine refuses_of_rule event hand number passes ?_
      rw [State.writeTill, indexOf_of_toNat_eq named, parseTill_of low high slot]
      refine if_pos ((State.tillTaken_iff _ _ _).mpr ?_)
      rw [tills]
      exact taken
    · have open_ : s.dropStage.tillTaken i
          { number := fieldNat item.body 1 2, ip := BitVec.ofNat 32 (fieldNat item.body 3 4)
            mac := BitVec.ofNat 48 (fieldNat item.body 7 6), slot := k, timeoutCode := byteAt item.body 14 } = false := by
        rw [Bool.eq_false_iff, ne_eq, State.tillTaken_iff, tills]
        exact free
      refine writes_of_rule event hand number passes (State.writeTill_of named (parseTill_of low high slot) open_) ?_
      rw [State.closeExchange_entry, TillEntry.write_closed, tills]
      exact State.answer_setTill context i _ item.kind
  · have number : item.kind.toNat = 5 := by rw [kind]; rfl
    have passes : s.refusalOf c item = none := by
      refine State.refusalOf_none (number ▸ floor 5 (.inr rfl)) ?_
      rw [number]
      simp [bodyForm, length]
    have event : exec .clearTill s = writeItem 5 State.clearTill s := rfl
    refine ⟨fun out => ?_, fun i named => ?_⟩
    · exact refuses_of_rule event hand number passes (by rw [State.clearTill, bodyIndex_out out]; rfl)
    · refine writes_of_rule event hand number passes (by rw [State.clearTill, bodyIndex_of named]; rfl) ?_
      exact State.answer_setTill context i .cold item.kind
end

section
/-! SUPPORT. The rule and locator items (R39 to R42). -/

namespace Sys2Proof.Machine

variable {s : State} {c : Context} {item : Item} {b : Bytes}

/-! ## Fields of a body -/

theorem fieldNat_drop (b : Bytes) (n o w : Nat) : fieldNat (b.drop n) o w = fieldNat b (n + o) w := by
  rw [fieldNat, fieldNat, slice, slice, List.drop_drop]

theorem byteAt_drop (b : Bytes) (n o : Nat) : byteAt (b.drop n) o = byteAt b (n + o) := by
  rw [byteAt, byteAt, List.getD_eq_getElem?_getD, List.getD_eq_getElem?_getD, List.getElem?_drop]

theorem indexOf_isSome_iff {n : Nat} {v : Byte} : (indexOf n v).isSome = true ↔ v.toNat < n := by
  unfold indexOf
  split <;> simp_all

/-! ## Probes -/

/-- Probe `n` of a rule body (Table 11-8). -/
def probeAt (b : Bytes) (n : Nat) : Probe :=
  { offset := fieldNat b (5 + 4 * n) 2, value := byteAt b (7 + 4 * n), mask := byteAt b (8 + 4 * n) }

theorem parseProbes_eq (n : Nat) (l : Bytes) (length : l.length = 4 * n) :
    parseProbes l = (List.range n).map fun k =>
      { offset := fieldNat l (4 * k) 2, value := byteAt l (4 * k + 2), mask := byteAt l (4 * k + 3) } := by
  induction n generalizing l with
  | zero =>
    obtain rfl := List.length_eq_zero_iff.mp length
    rfl
  | succ n ih =>
    match l, length with
    | a :: b :: v :: m :: rest, length =>
      have shorter : rest.length = 4 * n := by
        simp only [List.length_cons] at length
        omega
      rw [parseProbes, ih rest shorter, List.range_succ_eq_map, List.map_cons, List.map_map]
      refine List.cons_eq_cons.mpr ⟨?_, List.map_congr_left fun k _ => ?_⟩
      · simp [fieldNat, slice, beNat, byteAt]
      · have field : fieldNat (a :: b :: v :: m :: rest) (4 * (k + 1)) 2 = fieldNat rest (4 * k) 2 := by
          rw [show 4 * (k + 1) = 4 + 4 * k from by omega, ← fieldNat_drop]
          rfl
        have byte : ∀ o, byteAt (a :: b :: v :: m :: rest) (4 * (k + 1) + o) = byteAt rest (4 * k + o) := fun o => by
          rw [show 4 * (k + 1) + o = 4 + (4 * k + o) from by omega, ← byteAt_drop]
          rfl
        simp only [Function.comp_apply, Nat.succ_eq_add_one, field, byte]

theorem parseProbes_body (length : b.length = 5 + 4 * (byteAt b 4).toNat) :
    parseProbes (b.drop 5) = (List.range (byteAt b 4).toNat).map (probeAt b) := by
  rw [parseProbes_eq (byteAt b 4).toNat _ (by rw [List.length_drop]; omega)]
  refine List.map_congr_left fun k _ => ?_
  rw [fieldNat_drop, byteAt_drop, byteAt_drop, probeAt]
  congr 2 <;> omega

/-- The values of a rule body that WRITE_RULE takes (R39). -/
def RuleInRange (b : Bytes) : Prop :=
  (byteAt b 4).toNat ≤ 8 ∧ (∀ p ∈ (List.range (byteAt b 4).toNat).map (probeAt b), p.offset ≤ 1023) ∧
    (byteAt b 2).toNat ≤ 7 ∧ (byteAt b 3).toNat ≤ 3 ∧ (byteAt b 1 = 0 ∨ byteAt b 1 = 1)

theorem parseRule_of_inRange {k : Fin 8} {r : Fin 4} (length : b.length = 5 + 4 * (byteAt b 4).toNat)
    (h : RuleInRange b) (locator : (byteAt b 2).toNat = k.val) (route : (byteAt b 3).toNat = r.val) :
    parseRule b = some
      { valid := byteAt b 1 == 1, probes := (List.range (byteAt b 4).toNat).map (probeAt b), locator := k
        route := r } := by
  obtain ⟨count, offsets, _, _, flag⟩ := h
  unfold parseRule
  rw [flagOf_of flag, indexOf_of_toNat_eq locator, indexOf_of_toNat_eq route, parseProbes_body length]
  refine if_pos ⟨by rwa [fieldNat_byte], ?_⟩
  exact List.all_eq_true.mpr fun p held => decide_eq_true (offsets p held)

theorem parseRule_of_not_inRange (length : b.length = 5 + 4 * (byteAt b 4).toNat) (h : ¬ RuleInRange b) :
    parseRule b = none := by
  unfold parseRule
  dsimp only
  split
  next valid locator route flag named routed =>
    rw [parseProbes_body length]
    refine if_neg ?_
    rintro ⟨count, offsets⟩
    rw [fieldNat_byte] at count
    have small : (byteAt b 2).toNat < 8 := indexOf_isSome_iff.mp (by rw [named]; rfl)
    have low : (byteAt b 3).toNat < 4 := indexOf_isSome_iff.mp (by rw [routed]; rfl)
    refine h ⟨count, ?_, by omega, by omega, ?_⟩
    · exact fun p held => of_decide_eq_true (List.all_eq_true.mp offsets p held)
    · by_contra other
      cases (flagOf_eq_none other).symm.trans flag
  · rfl

/-! ## Locators -/

/-- The values of a locator body that WRITE_LOCATOR takes (R41). -/
def LocatorInRange (b : Bytes) : Prop :=
  (byteAt b 1 = 0 ∨ byteAt b 1 = 1) ∧ (byteAt b 5 = 0 ∨ byteAt b 5 = 1) ∧ (byteAt b 14 = 0 ∨ byteAt b 14 = 1) ∧
    (byteAt b 15 = 0 ∨ byteAt b 15 = 1) ∧
    ((byteAt b 4).toNat = 1 ∨ (byteAt b 4).toNat = 2 ∨ (byteAt b 4).toNat = 4) ∧
    fieldNat b 2 2 ≤ 1023 ∧ fieldNat b 10 2 ≤ 1023 ∧ fieldNat b 12 2 ≤ 1023 ∧
    (byteAt b 5 = 1 → fieldNat b 6 2 ≤ 1023 ∧ (byteAt b 8).toNat ≤ 7) ∧
    (byteAt b 15 = 1 → fieldNat b 16 2 ≤ 1023 ∧ fieldNat b 18 2 ≤ 1023)

/-- The locator that a body in range gives. -/
def locatorOf (b : Bytes) : Locator :=
  { valid := byteAt b 1 == 1, seqOffset := fieldNat b 2 2, seqWidth := (byteAt b 4).toNat
    indicator :=
      if byteAt b 5 = 1 then
        some
          { offset := fieldNat b 6 2, bit := Fin.ofNat 8 (byteAt b 8).toNat
            invert := byteAt b 9 != 0 }
      else none
    panLengthOffset := fieldNat b 10 2, panOffset := fieldNat b 12 2
    encoding := if byteAt b 14 = 1 then .packed else .ascii
    companion :=
      if byteAt b 15 = 1 then
        some { lengthOffset := fieldNat b 16 2, dataOffset := fieldNat b 18 2 }
      else none
    fill := byteAt b 20 }

theorem parseIndicator_of (flag : byteAt b 5 = 0 ∨ byteAt b 5 = 1)
    (range : byteAt b 5 = 1 → fieldNat b 6 2 ≤ 1023 ∧ (byteAt b 8).toNat ≤ 7) :
    parseIndicator b = some (locatorOf b).indicator := by
  unfold parseIndicator locatorOf
  rcases flag with zero | one
  · simp [zero, flagOf]
  · obtain ⟨offset, bit⟩ := range one
    have named : indexOf 8 (byteAt b 8) = some (Fin.ofNat 8 (byteAt b 8).toNat) :=
      indexOf_of_toNat_eq (by simp [Fin.ofNat, Nat.mod_eq_of_lt (Nat.lt_succ_of_le bit)])
    rw [flagOf_of (.inr one), named]
    simp [one, Config.offsetMax, offset]

theorem parseIndicator_eq_none
    (out : ¬ ((byteAt b 5 = 0 ∨ byteAt b 5 = 1) ∧ (byteAt b 5 = 1 → fieldNat b 6 2 ≤ 1023 ∧ (byteAt b 8).toNat ≤ 7))) :
    parseIndicator b = none := by
  unfold parseIndicator
  by_cases flag : byteAt b 5 = 0 ∨ byteAt b 5 = 1
  · rcases flag with zero | one
    · exact absurd ⟨.inl zero, fun one => by rw [zero] at one; cases one⟩ out
    · rw [show flagOf (byteAt b 5) = some true from by rw [one]; rfl]
      dsimp only
      split
      · rfl
      next bit named =>
        have small : (byteAt b 8).toNat < 8 := indexOf_isSome_iff.mp (by rw [named]; rfl)
        exact if_neg fun offset => out ⟨.inr one, fun _ => ⟨offset, Nat.le_of_lt_succ small⟩⟩
  · rw [flagOf_eq_none flag]

theorem parseCompanion_of (flag : byteAt b 15 = 0 ∨ byteAt b 15 = 1)
    (range : byteAt b 15 = 1 → fieldNat b 16 2 ≤ 1023 ∧ fieldNat b 18 2 ≤ 1023) :
    parseCompanion b = some (locatorOf b).companion := by
  unfold parseCompanion locatorOf
  rcases flag with zero | one
  · simp [zero, flagOf]
  · rw [flagOf_of (.inr one)]
    simp [one, Config.offsetMax, range one]

theorem parseCompanion_eq_none
    (out : ¬ ((byteAt b 15 = 0 ∨ byteAt b 15 = 1) ∧
      (byteAt b 15 = 1 → fieldNat b 16 2 ≤ 1023 ∧ fieldNat b 18 2 ≤ 1023))) : parseCompanion b = none := by
  unfold parseCompanion
  by_cases flag : byteAt b 15 = 0 ∨ byteAt b 15 = 1
  · rcases flag with zero | one
    · exact absurd ⟨.inl zero, fun one => by rw [zero] at one; cases one⟩ out
    · rw [flagOf_of (.inr one), one]
      exact if_neg fun offsets => out ⟨.inr one, fun _ => offsets⟩
  · rw [flagOf_eq_none flag]

theorem parseLocator_of_inRange (h : LocatorInRange b) : parseLocator b = some (locatorOf b) := by
  obtain ⟨valid, indicator, encoding, companion, width, sequence, length, pan, indicated, accompanied⟩ := h
  unfold parseLocator
  rw [flagOf_of valid, flagOf_of encoding, parseIndicator_of indicator indicated, parseCompanion_of companion accompanied,
    fieldNat_byte]
  refine (if_pos ⟨width, sequence, length, pan⟩).trans ?_
  simp [locatorOf]

theorem parseLocator_of_not_inRange (h : ¬ LocatorInRange b) : parseLocator b = none := by
  unfold parseLocator
  dsimp only
  split
  next v p ind comp valid encoding indicator companion =>
    rw [fieldNat_byte]
    refine if_neg ?_
    rintro ⟨width, sequence, length, pan⟩
    have flags : ∀ {o x}, flagOf (byteAt b o) = some x → byteAt b o = 0 ∨ byteAt b o = 1 := fun parsed => by
      by_contra other
      cases (flagOf_eq_none other).symm.trans parsed
    have indicated : (byteAt b 5 = 0 ∨ byteAt b 5 = 1) ∧
        (byteAt b 5 = 1 → fieldNat b 6 2 ≤ 1023 ∧ (byteAt b 8).toNat ≤ 7) := by
      by_contra out
      cases (parseIndicator_eq_none out).symm.trans indicator
    have accompanied : (byteAt b 15 = 0 ∨ byteAt b 15 = 1) ∧
        (byteAt b 15 = 1 → fieldNat b 16 2 ≤ 1023 ∧ fieldNat b 18 2 ≤ 1023) := by
      by_contra out
      cases (parseCompanion_eq_none out).symm.trans companion
    exact h ⟨flags valid, indicated.1, flags encoding, accompanied.1, width, sequence, length, pan, indicated.2,
      accompanied.2⟩
  · rfl

theorem State.locatorNamed_iff (s : State) (i : Fin 8) :
    s.locatorNamed i = true ↔ ∃ j : Fin 16, s.rules[j].valid = true ∧ s.rules[j].locator = i := by
  have other := (s.locatorNamed_eq_false_iff (i := i)).not
  rw [Bool.not_eq_false] at other
  rw [other]
  push Not
  rfl

end Sys2Proof.Machine
end

section
/-! R39 to R42: rule and locator items. -/

open Sys2Proof Sys2Proof.Machine

/-- Settles O50: the parsers take the bodies in range and no other, and the rules' two checks on the tables are the
statement's. -/
theorem ruleAndLocatorItemsReplaceTheEntry : Obligations.RuleAndLocatorItemsReplaceTheEntry := by
  intro s c item b
  have locators : s.dropStage.locators = s.locators := by rw [State.dropStage_eq]
  have named_iff : ∀ i : Fin 8, s.dropStage.locatorNamed i = s.locatorNamed i := fun i => by rw [State.dropStage_eq]; rfl
  refine ⟨fun remote least length => ?_, fun remote length => ?_, fun remote length => ?_, fun remote length => ?_⟩
  · have form : bodyForm 7 b = some true := by
      simp [bodyForm, fieldNat_byte, ← length, least]
    have event : exec .writeRule s = writeItem 7 State.writeRule s := rfl
    refine ⟨fun out => ?_, fun i named => ⟨fun range => ?_, fun k r range locator route =>
      ⟨fun flag invalid => ?_, fun names => ?_⟩⟩⟩
    · exact remote.refuses event form (by rw [State.writeRule, indexOf_of_le out])
    · exact remote.refuses event form (by
        rw [State.writeRule, indexOf_of_toNat_eq named, parseRule_of_not_inRange length range])
    · refine remote.refuses event form ?_
      rw [State.writeRule, indexOf_of_toNat_eq named, parseRule_of_inRange length range locator route]
      exact if_pos (by rw [flag, locators, invalid]; rfl)
    · let written : Rule :=
        { valid := byteAt b 1 == 1, probes := (List.range (byteAt b 4).toNat).map (probeAt b), locator := k, route := r }
      refine remote.writes event form (u := { s.dropStage with rules := s.dropStage.rules.set i written }) ?_ ?_
      · rw [State.writeRule, indexOf_of_toNat_eq named, parseRule_of_inRange length range locator route]
        refine if_neg ?_
        rcases names with zero | valid
        · rw [zero]
          simp
        · rw [locators, valid]
          simp
      · rw [State.dropStage_eq]
        simp only [State.answer, State.answered, remote.1.2.1]
        rfl
  · have event : exec .clearRule s = writeItem 8 State.clearRule s := rfl
    have form : bodyForm 8 b = some true := by simp [bodyForm, length]
    refine ⟨fun out => ?_, fun i named => ?_⟩
    · exact remote.refuses event form (by rw [State.clearRule, bodyIndex_out out]; rfl)
    · refine remote.writes event form (by rw [State.clearRule, bodyIndex_of named]; rfl) ?_
      rw [State.dropStage_eq]
      simp only [State.answer, State.answered, remote.1.2.1]
      rfl
  · have event : exec .writeLocator s = writeItem 10 State.writeLocator s := rfl
    have form : bodyForm 10 b = some true := by simp [bodyForm, length]
    refine ⟨fun out => ?_, fun i named => ⟨fun range => ?_, fun range zero inUse => ?_, fun range free => ?_⟩⟩
    · exact remote.refuses event form (by rw [State.writeLocator, indexOf_of_le out])
    · have out : ¬ LocatorInRange b := fun h => by
        obtain ⟨valid, indicator, encoding, companion, rest⟩ := h
        exact range ⟨valid, indicator, encoding, companion, rest⟩
      exact remote.refuses event form (by
        rw [State.writeLocator, indexOf_of_toNat_eq named, parseLocator_of_not_inRange out])
    · refine remote.refuses event form ?_
      rw [State.writeLocator, indexOf_of_toNat_eq named, parseLocator_of_inRange range]
      refine if_pos ?_
      rw [named_iff, (s.locatorNamed_iff i).mpr inUse]
      simp [locatorOf, zero]
    · refine remote.writes event form (u := { s.dropStage with locators := s.dropStage.locators.set i (locatorOf b) })
        ?_ ?_
      · rw [State.writeLocator, indexOf_of_toNat_eq named, parseLocator_of_inRange range]
        refine if_neg ?_
        rw [named_iff]
        rcases free with one | unnamed
        · simp [locatorOf, one]
        · have none : s.locatorNamed i = false := by
            rw [Bool.eq_false_iff]
            exact (s.locatorNamed_iff i).not.mpr unnamed
          rw [none]
          simp
      · rw [State.dropStage_eq]
        simp only [State.answer, State.answered, remote.1.2.1]
        rfl
  · have event : exec .clearLocator s = writeItem 11 State.clearLocator s := rfl
    have form : bodyForm 11 b = some true := by simp [bodyForm, length]
    refine ⟨fun out => ?_, fun i named => ⟨fun inUse => ?_, fun unnamed => ?_⟩⟩
    · exact remote.refuses event form (by rw [State.clearLocator, indexOf_of_le out])
    · refine remote.refuses event form ?_
      rw [State.clearLocator, indexOf_of_toNat_eq named]
      exact if_pos ((named_iff i).trans ((s.locatorNamed_iff i).mpr inUse))
    · refine remote.writes event form (u := { s.dropStage with locators := s.dropStage.locators.set i .cold }) ?_ ?_
      · rw [State.clearLocator, indexOf_of_toNat_eq named]
        refine if_neg ?_
        rw [named_iff]
        exact (s.locatorNamed_iff i).not.mpr unnamed
      · rw [State.dropStage_eq]
        simp only [State.answer, State.answered, remote.1.2.1]
        rfl
end

section
/-! SUPPORT. The key store's items (R67, R72, R73). -/

namespace Sys2Proof.Machine

variable {s : State} {c : Context} {item : Item} {b : Bytes} {i : Fin 16}

/-! ## Checks of STAGE_OPEN (R67) -/

theorem State.nextIsStageKeys_iff (s : State) (c : Context) (slot : Byte) :
    s.nextIsStageKeys c slot = true ↔
      ∃ next, (messageItems s.message)[c.nextItem]? = some next ∧ next.kind = 17 ∧ next.body.head? = some slot := by
  unfold State.nextIsStageKeys
  cases (messageItems s.message)[c.nextItem]? with
  | none => simp
  | some next =>
    obtain ⟨kind, body⟩ := next
    cases body with
    | nil => simp
    | cons d rest => simp [byteAt]

theorem KeySlot.busy_iff (k : KeySlot) :
    k.busy = true ↔ (k.bank .A).state = .live ∧ (k.bank .B).state = .draining ∨
      (k.bank .A).state = .draining ∧ (k.bank .B).state = .live := by
  simp [KeySlot.busy, KeySlot.bank]

theorem KeySlot.uses_iff (k : KeySlot) (g : Byte) :
    k.uses g = true ↔
      ∃ x, ((k.bank x).state = .live ∨ (k.bank x).state = .draining) ∧ (k.bank x).generation = g := by
  simp only [KeySlot.uses, Bool.or_eq_true, Bool.and_eq_true, beq_iff_eq]
  constructor
  · rintro (a | b)
    · exact ⟨.A, a⟩
    · exact ⟨.B, b⟩
  · rintro ⟨x, used⟩
    cases x
    · exact .inl used
    · exact .inr used

/-- STAGE_OPEN on a remote item of its form: the answer of its rule. -/
theorem execStageOpen_refuses {r : ResultCode} (remote : s.RemoteItem c item 16 b) (length : b.length = 3)
    (refused : s.dropStage.stageOpen c b = .error r) : Answers .stageOpen s c item r [] := by
  have passes := remote.passes (by simp [bodyForm, length])
  obtain ⟨hand, _, kind, rfl⟩ := remote
  have done := itemEvent_act false (· == 16)
    (fun s c item =>
      match s.dropStage.stageOpen c item.body with
      | .ok s1 => s1.answer item.kind .done []
      | .error r => s.dropStage.answer item.kind r []) s c item hand (by simp [kind]) passes
  simp only [refused, State.dropStage_answer s c hand.2.1] at done
  exact ⟨_, done, conclude_settles ..⟩

theorem execStageOpen_opens {u a : State} (remote : s.RemoteItem c item 16 b) (length : b.length = 3)
    (opened : s.dropStage.stageOpen c b = .ok u) (same : u.answer item.kind .done [] = a) :
    ∃ t, exec .stageOpen s = .next t ∧ SettlesTo a t := by
  have passes := remote.passes (by simp [bodyForm, length])
  obtain ⟨hand, _, kind, rfl⟩ := remote
  have done := itemEvent_act false (· == 16)
    (fun s c item =>
      match s.dropStage.stageOpen c item.body with
      | .ok s1 => s1.answer item.kind .done []
      | .error r => s.dropStage.answer item.kind r []) s c item hand (by simp [kind]) passes
  simp only [opened, same] at done
  exact ⟨_, done, conclude_settles ..⟩

end Sys2Proof.Machine
end

section
/-! R66, R67, R179: STAGE_OPEN. -/

open Sys2Proof Sys2Proof.Machine

/-- Settles O51: the rule's checks are the statement's cases, in order. -/
theorem stageOpenChecksInOrder : Obligations.StageOpenChecksInOrder := by
  intro s c item b remote length
  have slot : ∀ i : Fin 16, s.dropStage.slots[i] = s.slots[i] := fun i => by rw [State.dropStage_slots]
  have next : s.dropStage.nextIsStageKeys c (byteAt b 0) = s.nextIsStageKeys c (byteAt b 0) := by
    rw [State.dropStage_eq]
    rfl
  refine ⟨fun out => ?_, fun i named => ⟨fun range => ?_, fun k generation code => ⟨fun unpaired => ?_, fun paired busy => ?_,
    fun paired idle used => ?_, fun paired idle fresh => ?_⟩⟩⟩
  · exact execStageOpen_refuses remote length (by rw [State.stageOpen, indexOf_of_le out])
  · refine execStageOpen_refuses remote length ?_
    rw [State.stageOpen, indexOf_of_toNat_eq named]
    dsimp only
    split
    · rfl
    next k code =>
      refine if_pos (range.resolve_right fun out => ?_)
      cases (indexOf_of_le out).symm.trans code
  all_goals
    have opens : s.dropStage.stageOpen c b =
        if s.nextIsStageKeys c (byteAt b 0) = false then .error .pairBroken
        else if s.slots[i].busy then .error .slotBusy
        else if s.slots[i].uses (byteAt b 1) then .error .sameGeneration
        else .ok { s.dropStage with load := .opened i (byteAt b 1) k } := by
      rw [State.stageOpen, indexOf_of_toNat_eq named, indexOf_of_toNat_eq code, next]
      dsimp only
      rw [slot]
      exact if_neg generation
  · refine execStageOpen_refuses remote length ?_
    rw [opens, if_pos]
    rw [Bool.eq_false_iff]
    exact (s.nextIsStageKeys_iff c _).not.mpr unpaired
  all_goals
    have follows : ¬ s.nextIsStageKeys c (byteAt b 0) = false := by
      rw [Bool.not_eq_false]
      exact (s.nextIsStageKeys_iff c _).mpr paired
  · refine execStageOpen_refuses remote length ?_
    rw [opens, if_neg follows, if_pos (s.slots[i].busy_iff.mpr busy)]
  · refine execStageOpen_refuses remote length ?_
    rw [opens, if_neg follows, if_neg (s.slots[i].busy_iff.not.mpr idle), if_pos ((s.slots[i].uses_iff _).mpr used)]
  · refine execStageOpen_opens remote length (u := { s.dropStage with load := .opened i (byteAt b 1) k }) ?_ ?_
    · rw [opens, if_neg follows, if_neg (s.slots[i].busy_iff.not.mpr idle), if_neg ((s.slots[i].uses_iff _).not.mpr fresh)]
    · rw [State.dropStage_eq]
      simp only [State.answer, State.answered, remote.1.2.1]
      rfl
end

section
/-! SUPPORT. The items that give up a bank (R72, R73), and those that offer a job (R68, R177). -/

namespace Sys2Proof.Machine

variable {s : State} {c : Context} {item : Item} {b : Bytes} {i : Fin 16} {k : KeySlot} {x y : BankId}

/-! ## SWITCH and RETIRE -/

theorem KeySlot.switch_eq_none (absent : ∀ x, (k.bank x).state ≠ .staged) : k.switch = none := by
  have first : k.a.state ≠ .staged := absent .A
  have second : k.b.state ≠ .staged := absent .B
  simp [KeySlot.switch, first, second]

/-- R72: the slot after SWITCH, whichever bank is STAGED. -/
theorem KeySlot.Legal.switch_eq (legal : k.Legal) (other : x ≠ y) (staged : (k.bank x).state = .staged) :
    k.switch = some ((k.setBank x { k.bank x with state := .live }).setBank y
      (if (k.bank y).state = .live then (k.bank y).giveUp else k.bank y)) := by
  cases x <;> cases y
  · exact absurd rfl other
  · have first : k.a.state = .staged := staged
    simp only [KeySlot.switch, if_pos first]
    rfl
  · have second : k.b.state = .staged := staged
    have first : k.a.state ≠ .staged := fun both => by
      have empty := legal (both.trans second.symm)
      cases both.symm.trans empty
    simp only [KeySlot.switch, if_neg first, if_pos second]
    rfl
  · exact absurd rfl other

theorem KeySlot.live_eq_none (absent : ∀ x, (k.bank x).state ≠ .live) : k.live = none := by
  have first : k.a.state ≠ .live := absent .A
  have second : k.b.state ≠ .live := absent .B
  simp [KeySlot.live, first, second]

theorem KeySlot.Legal.live_eq (legal : k.Legal) (live : (k.bank x).state = .live) : k.live = some x := by
  cases x with
  | A =>
    have first : k.a.state = .live := live
    simp [KeySlot.live, first]
  | B =>
    have second : k.b.state = .live := live
    have first : k.a.state ≠ .live := fun both => by
      have empty := legal (both.trans second.symm)
      cases both.symm.trans empty
    simp [KeySlot.live, first, second]

/-- A slot with a LIVE bank is busy exactly while the other bank is DRAINING (Table 4-3). -/
theorem KeySlot.busy_of_live (other : x ≠ y) (live : (k.bank x).state = .live) :
    k.busy = true ↔ (k.bank y).state = .draining := by
  rw [KeySlot.busy_iff]
  cases x <;> cases y <;> simp_all

theorem State.setBank_setBank_answer (context : s.context = some c) (i : Fin 16) (x y : BankId) (v w : KeyBank)
    (kind : Byte) :
    ({ s.dropStage with
        slots := s.dropStage.slots.set i ((s.dropStage.slots[i].setBank x v).setBank y w) } : State).answer kind .done [] =
      ((s.answered c kind .done []).setBank i x v).setBank i y w := by
  have written : ((s.answered c kind .done []).setBank i x v).setBank i y w =
      { s.answered c kind .done [] with slots := s.slots.set i ((s.slots[i].setBank x v).setBank y w) } := by
    unfold State.setBank State.answered
    simp
  rw [written, State.dropStage_eq]
  simp only [State.answer, State.answered, context]
  rfl

/-! ## Jobs of MGU (R113) -/

/-- A job that MGU offers, in the words of the claims. -/
theorem State.offerMgmt_eq (context : s.context = some c) (w : JobWork) : s.offerMgmt w = s.withMgmtJob c w := by
  unfold State.offerMgmt State.withMgmtJob
  rw [context]
  rfl

/-- An item that offers a job: the state its rule gives, settled. -/
theorem itemEvent_offers {code : Nat} {act : State → Context → Item → State} {i : Instr} {a : State}
    (event : exec i s = itemEvent false (· == code) act s) (remote : s.RemoteItem c item code b)
    (form : bodyForm code b = some true) (rule : act s c item = a) : ∃ t, exec i s = .next t ∧ SettlesTo a t := by
  have passes := remote.passes form
  obtain ⟨hand, _, kind, _⟩ := remote
  have done := event.trans (itemEvent_act false (· == code) act s c item hand (by simp [kind]) passes)
  rw [rule] at done
  exact ⟨_, done, conclude_settles ..⟩

end Sys2Proof.Machine
end

section
/-! R68, R113, R130, R177: the items that offer a KEY_UNWRAP job. -/

open Sys2Proof Sys2Proof.Machine

/-- Settles O52: the check of STAGE_KEYS admits the opened stage of the slot alone, and both items then offer their job. -/
theorem keyItemsOfferTheirUnwrapJob : Obligations.KeyItemsOfferTheirUnwrapJob := by
  intro s c item b
  refine ⟨fun remote length => ?_, fun remote length => ?_⟩
  · have form : bodyForm 17 b = some true := by simp [bodyForm, length]
    have event : exec .stageKeys s = itemEvent false (· == 17)
      (fun s _ item =>
        match stageKeysCheck s.load item.body with
        | .ok load => State.offerMgmt { s with load := load } (.keyUnwrap s.mgmtKeys.ktk (stageKeyList item.body))
        | .error r => s.dropStage.answer item.kind r []) s := rfl
    have body := remote.2.2.2
    have context := remote.1.2.1
    refine ⟨fun out => ?_, fun i named => ⟨fun unopened idle => ?_, fun generation code opened => ?_⟩⟩
    · refine itemEvent_offers event remote form ?_
      rw [body, stageKeysCheck, indexOf_of_le out]
      exact State.dropStage_answer s c context _ _ _
    · refine itemEvent_offers event remote form ?_
      have check : stageKeysCheck s.load b = .error .pairBroken := by
        rw [stageKeysCheck, indexOf_of_toNat_eq named]
        dsimp only
        split
        next j generation code load =>
          refine if_neg fun (same : i = j) => ?_
          subst same
          exact unopened generation code load
        · rfl
        · rfl
      rw [body, check]
      exact State.dropStage_answer s c context _ _ _
    · refine itemEvent_offers event remote form ?_
      have check : stageKeysCheck s.load b = .ok (.unwrapping i generation code) := by
        rw [stageKeysCheck, indexOf_of_toNat_eq named, opened]
        exact if_pos rfl
      rw [body, check]
      exact State.offerMgmt_eq (s := { s with load := .unwrapping i generation code }) context _
  · have form : bodyForm 27 b = some true := by simp [bodyForm, length]
    have event : exec .loadMgmtKeys s = itemEvent false (· == 27)
      (fun s _ item => s.dropStage.offerMgmt (.keyUnwrap s.mgmtKeys.ktk (mgmtKeyList item.body))) s := rfl
    refine itemEvent_offers event remote form ?_
    rw [remote.2.2.2, State.dropStage_eq]
    exact State.offerMgmt_eq (s := { s with load := s.load.dropped }) remote.1.2.1 _
end

section
/-! R64, R72, R73: SWITCH and RETIRE. -/

open Sys2Proof Sys2Proof.Machine

/-- Settles O53: in a legal slot the bank named is the one the rule finds, and giving up is the statement's. -/
theorem switchAndRetireGiveUpTheLiveBank : Obligations.SwitchAndRetireGiveUpTheLiveBank := by
  intro s c item n
  have slot : ∀ i : Fin 16, s.dropStage.slots[i] = s.slots[i] := fun i => by rw [State.dropStage_slots]
  refine ⟨fun remote => ⟨fun out => ?_, fun i named legal => ⟨fun absent => ?_, fun x y other staged => ?_⟩⟩,
    fun remote => ⟨fun out => ?_, fun i named legal => ⟨fun absent => ?_, fun x y other live => ⟨fun draining => ?_,
      fun idle => ?_⟩⟩⟩⟩
  · have event : exec .switch s = writeItem 18 State.switchSlot s := rfl
    exact remote.refuses event rfl (by rw [State.switchSlot, show byteAt [n] 0 = n from rfl, indexOf_of_le out])
  · have event : exec .switch s = writeItem 18 State.switchSlot s := rfl
    refine remote.refuses event rfl ?_
    rw [State.switchSlot, show byteAt [n] 0 = n from rfl, indexOf_of_toNat_eq named]
    dsimp only
    rw [slot, KeySlot.switch_eq_none absent]
  · have event : exec .switch s = writeItem 18 State.switchSlot s := rfl
    have done : s.dropStage.switchSlot [n] = .ok
        { s.dropStage with
          slots := s.dropStage.slots.set i ((s.dropStage.slots[i].setBank x { s.bank i x with state := .live }).setBank y
            (if (s.bank i y).state = .live then (s.bank i y).giveUp else s.bank i y)) } := by
      rw [State.switchSlot, show byteAt [n] 0 = n from rfl, indexOf_of_toNat_eq named]
      dsimp only
      rw [slot, legal.switch_eq other staged]
      rfl
    exact remote.writes event rfl done (State.setBank_setBank_answer remote.1.2.1 i x y _ _ _)
  · have event : exec .retire s = writeItem 19 State.retireSlot s := rfl
    exact remote.refuses event rfl (by rw [State.retireSlot, show byteAt [n] 0 = n from rfl, indexOf_of_le out])
  · have event : exec .retire s = writeItem 19 State.retireSlot s := rfl
    refine remote.refuses event rfl ?_
    rw [State.retireSlot, show byteAt [n] 0 = n from rfl, indexOf_of_toNat_eq named]
    dsimp only
    rw [slot, KeySlot.live_eq_none absent]
  · have event : exec .retire s = writeItem 19 State.retireSlot s := rfl
    refine remote.refuses event rfl ?_
    rw [State.retireSlot, show byteAt [n] 0 = n from rfl, indexOf_of_toNat_eq named]
    dsimp only
    rw [slot, legal.live_eq live]
    exact if_pos ((KeySlot.busy_of_live other live).mpr draining)
  · have done : s.dropStage.retireSlot [n] = .ok (s.dropStage.setBank i x (s.dropStage.bank i x).giveUp) := by
      rw [State.retireSlot, show byteAt [n] 0 = n from rfl, indexOf_of_toNat_eq named]
      dsimp only
      rw [slot, legal.live_eq live]
      exact if_neg ((KeySlot.busy_of_live other live).not.mpr idle)
    obtain ⟨t, next, settles⟩ := writeItem_settles_setBank remote rfl done
    rw [State.dropStage_bank] at settles
    exact ⟨t, next, settles⟩
end

section
/-! SUPPORT. The event and counter items (R191 to R193, R198), and RESTART (R184). -/

namespace Sys2Proof.Machine

variable {s : State} {c : Context} {item : Item} {b : Bytes}

/-! ## The event map (R193) -/

/-- Each of the 18 bytes of a map body is a notice slot or FFh. -/
def MapInRange (b : Bytes) : Prop := ∀ e : Fin 18, (byteAt b e.val).toNat ≤ 23 ∨ byteAt b e.val = 0xFF

theorem mapInRange_iff (length : b.length = 18) :
    ((b.take 18).all fun x => decide (x.toNat ≤ 23) || x == 0xFF) = true ↔ MapInRange b := by
  rw [List.take_of_length_le (by omega), List.all_eq_true]
  simp only [Bool.or_eq_true, decide_eq_true_eq, beq_iff_eq]
  constructor
  · intro h e
    have within : e.val < b.length := by omega
    have byte : byteAt b e.val = b[e.val] := by
      rw [byteAt, List.getD_eq_getElem?_getD, List.getElem?_eq_getElem within]
      rfl
    rw [byte]
    exact h _ (List.getElem_mem within)
  · intro h x held
    obtain ⟨n, within, rfl⟩ := List.mem_iff_getElem.mp held
    have range := h ⟨n, by omega⟩
    have byte : byteAt b n = b[n] := by
      rw [byteAt, List.getD_eq_getElem?_getD, List.getElem?_eq_getElem within]
      rfl
    rwa [byte] at range

/-- The map that a body in range gives (R193). -/
def mapOf (b : Bytes) : Vector (Option (Fin 24)) 18 := Vector.ofFn fun n => indexOf 24 (byteAt b n.val)

theorem mapOf_get (b : Bytes) (e : Fin 18) : (mapOf b)[e] = indexOf 24 (byteAt b e.val) := by
  simp [mapOf]

theorem mapOf_val (range : MapInRange b) (e : Fin 18) :
    (mapOf b)[e].map (·.val) = if byteAt b e.val = 0xFF then none else some (byteAt b e.val).toNat := by
  rw [mapOf_get]
  rcases range e with slot | none
  · have other : byteAt b e.val ≠ 0xFF := fun same => by
      rw [same] at slot
      exact absurd slot (by decide)
    rw [if_neg other, indexOf, dif_pos (by omega)]
    rfl
  · rw [if_pos none, none]
    rfl

theorem mapShares_iff (range : MapInRange b) :
    mapShares (mapOf b) = true ↔ ∃ d e : Fin 18, d ≠ e ∧ byteAt b d.val = byteAt b e.val ∧ byteAt b d.val ≠ 0xFF := by
  have unshared := (mapShares_eq_false_iff (m := mapOf b)).not
  rw [Bool.not_eq_false] at unshared
  rw [unshared]
  push Not
  constructor
  · rintro ⟨d, e, other, same, some⟩
    have values := congrArg (Option.map (·.val)) same
    rw [mapOf_val range, mapOf_val range] at values
    have given : byteAt b d.val ≠ 0xFF := fun none => by
      refine some ?_
      rw [mapOf_get, none]
      rfl
    rw [if_neg given] at values
    split at values
    · cases values
    · exact ⟨d, e, other, BitVec.eq_of_toNat_eq (Option.some.inj values), given⟩
  · rintro ⟨d, e, other, same, given⟩
    refine ⟨d, e, other, by rw [mapOf_get, mapOf_get, same], fun none => given ?_⟩
    have value := mapOf_val range d
    rw [none] at value
    by_contra some
    rw [if_neg some] at value
    cases value

/-! ## RESTART (R184) -/

/-- The entries of the items that are not executed (R184). -/
theorem answer_notExecuted (rest : List Item) (s : State) (context : s.context = some c) (idle : c.job = none) :
    rest.foldl (fun st i => st.answer i.kind .notExecuted []) s =
      { s with
        response := s.response ++ rest.flatMap fun i => [i.kind, 13, 0, 0]
        context := some { c with nextItem := c.nextItem + rest.length } } := by
  induction rest generalizing s c with
  | nil =>
    simp only [List.foldl_nil, List.flatMap_nil, List.append_nil, List.length_nil, Nat.add_zero, ← context]
  | cons i rest ih =>
    have answered : (s.answer i.kind .notExecuted []).context = some { c with nextItem := c.nextItem + 1, job := none } := by
      simp only [State.answer, context]
      rfl
    rw [List.foldl_cons, ih _ answered rfl]
    simp only [State.answer, List.flatMap_cons, List.length_cons, List.append_assoc]
    congr 1
    simp only [idle, Nat.add_comm, Nat.add_left_comm]

theorem State.restartItem_eq (context : s.context = some c) (kind : item.kind = 28) :
    s.dropStage.restartItem c item =
      ({ s with
          load := s.load.dropped, mgu := .tagging
          response := s.response ++ [28, 0, 0, 0] ++
            ((messageItems s.message).drop c.nextItem).flatMap fun i => [i.kind, 13, 0, 0] } : State).withMgmtJob
        { c with
          nextItem := c.nextItem + 1 + ((messageItems s.message).drop c.nextItem).length, restartPending := true
          job := none } (.responseTag c.key) := by
  have message : s.dropStage.message = s.message := by rw [State.dropStage_eq]
  have answered : (s.dropStage.answer item.kind .done []).context = some { c with nextItem := c.nextItem + 1, job := none } := by
    rw [State.dropStage_eq]
    simp only [State.answer, context]
    rfl
  unfold State.restartItem State.completeResponse
  dsimp only
  rw [message, answer_notExecuted _ _ answered rfl, State.dropStage_eq, State.offerMgmt_eq (by rfl), kind]
  rfl

end Sys2Proof.Machine
end

section
/-! R191 to R193, R198: event and counter items. -/

open Sys2Proof Sys2Proof.Machine

/-- Settles O55: each rule writes one part of the event unit; the checks of the map are those of its bytes. -/
theorem eventAndCounterItems : Obligations.EventAndCounterItems := by
  intro s c item hand
  have context := hand.2.1
  refine ⟨fun kind length => ?_, fun origin kind length => ?_, fun origin kind length => ?_, fun origin kind body => ?_⟩
  · have number : item.kind.toNat = 24 := by rw [kind]; rfl
    have passes : s.refusalOf c item = none := by
      refine State.refusalOf_none (.inr ?_) ?_ <;> rw [number]
      · exact .inr (.inl rfl)
      · simp [bodyForm, length]
    have event : exec .clearEvents s = writeItem 24 (fun s b => .ok (s.clearStatuses (sourceSet b))) s := rfl
    obtain ⟨t, next, settles⟩ := writes_of_rule (a := { s.answered c item.kind .done [] with
      status := Vector.ofFn fun i => s.status[i] && !(sourceSet item.body)[i] }) event hand number passes rfl (by
        rw [State.dropStage_eq]
        simp only [State.answer, State.answered, State.clearStatuses, context]
        rfl)
    refine ⟨t, next, _, settles, fun e => ?_⟩
    simp [sourceSet]
  · have number : item.kind.toNat = 23 := by rw [kind]; rfl
    have passes := s.refusalOf_remote c item origin (by rw [number]; simp [bodyForm, length])
    have event : exec .writeEventEnables s = writeItem 23 (fun s b => .ok { s with enables := sourceSet b }) s := rfl
    obtain ⟨t, next, settles⟩ := writes_of_rule (a := { s.answered c item.kind .done [] with
      enables := sourceSet item.body }) event hand number passes rfl (by
        rw [State.dropStage_eq]
        simp only [State.answer, State.answered, context]
        rfl)
    exact ⟨t, next, _, settles, fun e => by simp [sourceSet]⟩
  · have number : item.kind.toNat = 22 := by rw [kind]; rfl
    have passes := s.refusalOf_remote c item origin (by rw [number]; simp [bodyForm, length])
    have event : exec .writeEventMap s = writeItem 22 State.writeEventMap s := rfl
    refine ⟨fun out => ?_, fun range shared => ?_, fun range apart => ?_⟩
    · refine refuses_of_rule event hand number passes ?_
      rw [State.writeEventMap, parseEventMap, if_neg ((mapInRange_iff length).not.mpr out)]
    all_goals
      have parsed : parseEventMap item.body = some (mapOf item.body) := if_pos ((mapInRange_iff length).mpr range)
    · refine refuses_of_rule event hand number passes ?_
      rw [State.writeEventMap, parsed]
      exact if_pos ((mapShares_iff range).mpr shared)
    · obtain ⟨t, next, settles⟩ := writes_of_rule (u := { s.dropStage with eventMap := mapOf item.body })
        (a := { s.answered c item.kind .done [] with eventMap := mapOf item.body }) event hand number passes (by
          rw [State.writeEventMap, parsed]
          exact if_neg ((mapShares_iff range).not.mpr apart)) (by
        rw [State.dropStage_eq]
        simp only [State.answer, State.answered, context]
        rfl)
      exact ⟨t, next, _, settles, mapOf_val range⟩
  · have number : item.kind.toNat = 26 := by rw [kind]; rfl
    have passes := s.refusalOf_remote c item origin (by rw [number, body]; rfl)
    have event : exec .clearCounters s = writeItem 26 (fun s _ => .ok s.clearCounters) s := rfl
    refine writes_of_rule event hand number passes rfl ?_
    rw [State.dropStage_eq]
    simp only [State.answer, State.answered, State.clearCounters, context]
    rfl
end

section
/-! SUPPORT. The erase in the words of the claims (R23, R79, R186, R199). -/

namespace Sys2Proof.Machine

variable {s a b t : State} {c : Context} {item : Item}

/-! ## What an erase does to the store (R23, R45, R71, R79, R86, R132, R176, R178) -/

theorem OwnEntry.slot_isNone (e : OwnEntry) : e.slot.isNone = !e.namesSlot := by
  cases e <;> rfl

theorem State.erasing_eq (s : State) : s.erasing = s.erasedStore := by
  have queue : (fun e : OwnEntry => !e.namesSlot) = fun e => e.slot.isNone := funext fun e => (e.slot_isNone).symm
  unfold State.erasing State.erasedStore PortState.afterErase
  rw [queue]
  rfl

/-- An erase: the store, MGU's part, and the end. -/
theorem State.eraseAll_eq_end (s : State) : s.eraseAll = s.erasedStore.eraseMessage.erasedEnd := by
  rw [State.eraseAll_eq, State.erasing_eq]
  rfl

/-- R186: outside the states that it names MGU is left as it is. -/
theorem State.eraseMessage_of_quiet (quiet : s.mgu = .idle ∨ s.mgu = .answering ∨
    s.mgu = .executing ∧ ∃ c, s.context = some c ∧ c.job = none) : s.eraseMessage = s := by
  unfold State.eraseMessage
  rcases quiet with idle | answering | ⟨executing, c, context, job⟩
  · rw [idle]
  · rw [answering]
  · rw [executing, context]
    simp [job]

theorem State.erasedEnd_context (s : State) : s.erasedEnd.context = s.context := by
  obtain ⟨x, w, n, first, _⟩ := (s.latch .erased).arbiter_shape .T
  obtain ⟨y, v, m, second, _⟩ := ((s.latch .erased).arbiter .T).arbiter_shape .L
  rw [State.erasedEnd, second, first]
  rfl

theorem State.erasedEnd_load (s : State) : s.erasedEnd.load = s.load := by
  obtain ⟨x, w, n, first, _⟩ := (s.latch .erased).arbiter_shape .T
  obtain ⟨y, v, m, second, _⟩ := ((s.latch .erased).arbiter .T).arbiter_shape .L
  rw [State.erasedEnd, second, first]
  rfl

/-- An answer where no stage is open. -/
theorem State.answer_eq_answered (context : s.context = some c) (load : s.load = .none) (kind : Byte) (r : ResultCode)
    (body : Bytes) : s.answer kind r body = s.answered c kind r body := by
  have closed : s.dropStage = s := by
    rw [State.dropStage_eq, load]
    exact congrArg (fun l => { s with load := l }) load.symm
  rw [← s.dropStage_answer c context, closed]

end Sys2Proof.Machine
end

section
/-! R184, R185 with R174, R186: RESTART and ERASE. -/

open Sys2Proof Sys2Proof.Machine

/-- Settles O56: RESTART answers its own item and every later one before the response is complete; ERASE finds MGU with an
item in hand, which it leaves. -/
theorem restartAndEraseItems : Obligations.RestartAndEraseItems := by
  intro s c item
  refine ⟨fun remote => ?_, fun remote => ?_⟩
  · have event : exec .restart s = itemEvent false (· == 28) (fun s c item => s.dropStage.restartItem c item) s := rfl
    obtain ⟨⟨_, context, _, _⟩, _, kind, _⟩ := id remote
    exact itemEvent_offers event remote rfl (State.restartItem_eq context (BitVec.eq_of_toNat_eq kind))
  · have passes := remote.passes rfl
    obtain ⟨hand, _, kind, _⟩ := remote
    have event : exec .erase s = itemEvent true (· == 29) (fun s _ item => s.dropStage.eraseAll.answer item.kind .done []) s :=
      rfl
    have done := event.trans (itemEvent_act true _ _ s c item hand (by simp [kind]) passes)
    refine ⟨_, done, ?_⟩
    obtain ⟨executing, context, idle, _⟩ := hand
    have store : s.dropStage.erasedStore = s.erasedStore := by rw [State.dropStage_eq]; rfl
    have named : s.erasedStore.context = some { c with pendingKeys := none } := congrArg (Option.map _) context
    have quiet : s.erasedStore.eraseMessage = s.erasedStore :=
      State.eraseMessage_of_quiet (.inr (.inr ⟨executing, _, named, idle⟩))
    rw [State.eraseAll_eq_end, store, quiet, State.answer_eq_answered ((State.erasedEnd_context _).trans named)
      ((State.erasedEnd_load _).trans rfl)]
    exact conclude_settles ..
end

section
/-! SUPPORT. The erase line and the starts that find it asserted (R80, R186). -/

namespace Sys2Proof.Machine

variable {s a b t : State} {c : Context} {item : Item}

/-- What the end of an event settles does not read the levels that it evaluates. -/
theorem SettlesTo.of_status {v : Vector Bool 18} (h : SettlesTo a t)
    (same : ∀ e : Fin 18, e.val < 11 → v[e] = a.status[e]) : SettlesTo { a with status := v } t where
  others := h.others
  counters := h.counters
  latched e below set := h.latched e below (same e below ▸ set)
  unlatched e below block saturated := (h.unlatched e below block saturated).trans (same e below).symm
  levels := h.levels
  portL := h.portL
  line := h.line
  quiet none := ⟨(h.quiet none).1, fun e below => ((h.quiet none).2 e below).trans (same e below).symm⟩

/-! ## MGU's part (R186) -/

theorem State.eraseMessage_authenticating (mgu : s.mgu = .authenticating) :
    s.eraseMessage = (({ s with mgu := .idle, message := [], context := none } : State).latch .mgmtReject).bump
      .mgmtRejected := by
  unfold State.eraseMessage
  rw [mgu]
  rfl

/-- An item under way gets a NOT_EXECUTED entry (R186). -/
theorem State.eraseMessage_executing (mgu : s.mgu = .executing) (context : s.context = some c)
    (busy : c.job.isSome = true) (item_at : s.itemAt = some item) :
    s.eraseMessage = s.answer item.kind .notExecuted [] := by
  obtain ⟨n, job⟩ := Option.isSome_iff_exists.mp busy
  unfold State.eraseMessage
  simp only [mgu, context, job, item_at]

/-- A NOT_EXECUTED entry where no stage is open. -/
theorem State.answer_notExecuted_eq (context : s.context = some c) (load : s.load = .none) (kind : Byte) :
    s.answer kind .notExecuted [] =
      { s with
        response := s.response ++ [kind, 13, 0, 0]
        context := some { c with nextItem := c.nextItem + 1, job := none } } := by
  rw [State.answer_eq_answered context load, State.answered, load]
  rfl

/-- A job offered to an empty engine runs on lane 0 (R112, R114). -/
theorem State.offerMgmt_of_empty (context : s.context = some c) (waiting : s.waiting = [])
    (lanes : s.lanes = Vector.replicate 4 none) (w : JobWork) :
    s.offerMgmt w =
      { s with
        nextJob := s.nextJob + 1, context := some { c with job := some s.nextJob }
        lanes := (Vector.replicate 4 none).set 0 (some (s.startJob { id := s.nextJob, work := w })) } := by
  have room : s.occupied < 64 := by
    rw [State.occupied_eq, State.jobs, waiting, lanes]
    decide
  have first : firstFree (Vector.replicate 4 (none : Option Running)) = some 0 := by decide
  rw [State.offerMgmt_eq context, State.withMgmtJob]
  dsimp only
  rw [if_pos room]
  have queue : s.waiting ++ [⟨s.nextJob, w⟩] = [⟨s.nextJob, w⟩] := by rw [waiting]; rfl
  unfold State.enterJob State.takeJob
  dsimp only
  rw [queue, lanes, first]
  simp only [State.takeOn, waiting]
  rfl

/-! ## The erase line (R80) -/

/-- The store erased with the line asserted. -/
theorem State.erasedStore_eraseLine (s : State) :
    ({ s with eraseLine := true } : State).erasedStore = { s.erasedStore with eraseLine := true } := rfl

theorem State.erasedStore_context (context : s.context = some c) :
    s.erasedStore.context = some { c with pendingKeys := none } := congrArg (Option.map _) context

theorem State.erasedStore_itemAt (s : State) : s.erasedStore.itemAt = s.itemAt := by
  unfold State.itemAt
  cases named : s.context with
  | none => rw [show s.erasedStore.context = none from congrArg (Option.map _) named]
  | some c => rw [State.erasedStore_context named]; rfl

/-! ## Starts that find the line asserted (R2, R80) -/

/-- A DOWN link's arbiter takes nothing. -/
theorem State.arbiter_of_down {p : PortId} (down : (s.port p).link = .down) : s.arbiter p = s := by
  unfold State.arbiter
  exact if_pos (.inr down)

/-- Two DOWN links end an erase with its latch alone. -/
theorem State.erasedEnd_of_down (portT : s.portT.link = .down) (portL : s.portL.link = .down) :
    s.erasedEnd = s.latch .erased := by
  rw [State.erasedEnd, State.arbiter_of_down (s := s.latch .erased) (p := .T) portT,
    State.arbiter_of_down (s := s.latch .erased) (p := .L) portL]

theorem withoutExchange_twice (v : Vector TillEntry 128) :
    (v.map TillEntry.withoutExchange).map TillEntry.withoutExchange = v.map TillEntry.withoutExchange := by
  rw [Vector.map_map]
  rfl

theorem State.warmStart_erase (s : State) :
    s.warmStart.eraseAll =
      (({ s with
          uptime := 0, counters := Vector.replicate 33 0
          mgmtKeys := { mtk := s.factory.mtk, ktk := s.factory.ktk, lmk := none } } : State).withoutWork .down .down
        (Vector.replicate 16 { a := KeyBank.cleared, b := KeyBank.cleared })).latch .erased := by
  rw [State.eraseAll_eq_end, State.eraseMessage_of_quiet (.inl rfl), State.erasedEnd_of_down rfl rfl]
  refine congrArg (fun a : State => a.latch .erased) ?_
  change ({ s.warmStart.erasedStore with
    tills := (s.tills.map TillEntry.withoutExchange).map TillEntry.withoutExchange } : State) = _
  rw [withoutExchange_twice]
  rfl

theorem State.coldStart_erase (s : State) :
    s.coldStart.eraseAll =
      ({ State.reset with
          pending := s.pending, factory := s.factory, nextJob := s.nextJob, eraseLine := s.eraseLine
          status := Vector.replicate 18 false
          mgmtKeys := { mtk := s.factory.mtk, ktk := s.factory.ktk, lmk := none } } : State).latch .erased := by
  rw [State.eraseAll_eq_end, State.eraseMessage_of_quiet (.inl rfl), State.erasedEnd_of_down rfl rfl]
  refine congrArg (fun a : State => a.latch .erased) ?_
  change ({ s.coldStart.erasedStore with
    tills := (Vector.replicate 128 TillEntry.cold).map TillEntry.withoutExchange } : State) = _
  rw [Vector.map_replicate]
  rfl

/-- The cold status and the empty one agree beside the levels. -/
theorem coldStatus_below : ∀ e : Fin 18, e.val < 11 → State.reset.status[e] = (Vector.replicate 18 false)[e] := by
  decide

theorem SettlesTo.latch_of_status {v w : Vector Bool 18} {f : EventSource}
    (h : SettlesTo (({ a with status := v } : State).latch f) t) (same : ∀ e : Fin 18, e.val < 11 → w[e] = v[e]) :
    SettlesTo (({ a with status := w } : State).latch f) t := by
  have latched : ∀ e : Fin 18, e.val < 11 → (w.set f.idx true)[e] = (v.set f.idx true)[e] := by
    intro e below
    rw [getElem_set_fin, getElem_set_fin, same e below]
  exact h.of_status latched

end Sys2Proof.Machine
end

section
/-! R80, R186: the erase line. -/

open Sys2Proof Sys2Proof.Machine

/-- Settles O21: an erase is the store's erase, MGU's part and the end, and MGU's part is one case for each of its states. -/
theorem eraseLineErases : Obligations.EraseLineErases := by
  refine ⟨fun s line => ?_, fun s line => ?_⟩
  · obtain ⟨t, event, ends⟩ : ∃ t, exec .eraseLineAsserted s = .next t ∧
        t = conclude true s ({ s.erasedStore with eraseLine := true } : State).eraseMessage.erasedEnd := by
      unfold exec execEraseLineAsserted
      rw [line, State.eraseAll_eq_end, State.erasedStore_eraseLine]
      exact ⟨_, rfl, rfl⟩
    refine ⟨t, event, ?_⟩
    intro e
    replace ends : t = conclude true s e.eraseMessage.erasedEnd := ends
    have mgu : e.mgu = s.mgu := rfl
    have response : e.response = s.response := rfl
    have nextJob : e.nextJob = s.nextJob := rfl
    have load : e.load = .none := rfl
    have waiting : e.waiting = [] := rfl
    have lanes : e.lanes = Vector.replicate 4 none := rfl
    have named : ∀ c, s.context = some c → e.context = some { c with pendingKeys := none } :=
      fun _ context => State.erasedStore_context context
    have at_e : e.itemAt = s.itemAt := s.erasedStore_itemAt
    clear_value e
    rw [ends]
    refine ⟨fun quiet => ?_, fun authenticating => ?_, fun c item executing context busy found => ?_,
      fun c tagging context => ?_⟩
    · have kept : e.eraseMessage = e := by
        refine State.eraseMessage_of_quiet ?_
        rcases quiet with idle | answering | ⟨executing, c, context, job⟩
        · exact .inl (mgu.trans idle)
        · exact .inr (.inl (mgu.trans answering))
        · exact .inr (.inr ⟨mgu.trans executing, _, named c context, job⟩)
      rw [kept]
      exact conclude_settles ..
    · rw [State.eraseMessage_authenticating (mgu.trans authenticating)]
      exact conclude_settles ..
    · rw [State.eraseMessage_executing (mgu.trans executing) (named c context) busy (at_e.trans found),
        State.answer_notExecuted_eq (named c context) load, response]
      exact conclude_settles ..
    · have offers : e.eraseMessage = e.offerMgmt (.responseTag c.key) := by
        unfold State.eraseMessage
        rw [mgu, tagging, named c context]
      rw [offers, State.offerMgmt_of_empty (named c context) waiting lanes, nextJob, ← response]
      exact conclude_settles ..
  · have event : exec .powerOnReset s = .next (conclude true s s.powerStart.eraseAll) := by
      unfold exec execPowerOnReset
      rw [line]
      rfl
    refine ⟨_, event, fun valid => ?_, fun lost => ?_⟩
    · have start : s.powerStart = s.warmStart := if_pos valid
      rw [start, State.warmStart_erase]
      exact conclude_settles ..
    · have start : s.powerStart = s.coldStart := if_neg (by rw [lost]; exact Bool.false_ne_true)
      have settles := conclude_settles true s s.coldStart.eraseAll
      rw [State.coldStart_erase, line] at settles
      rw [start, State.coldStart_erase, line]
      exact SettlesTo.latch_of_status
        (a := { State.reset with
          pending := s.pending, factory := s.factory, nextJob := s.nextJob, eraseLine := true
          mgmtKeys := { mtk := s.factory.mtk, ktk := s.factory.ktk, lmk := none } }) settles coldStatus_below
end

section
/-! SUPPORT. A close by the job that the exchange names (R107, R117). -/

namespace Sys2Proof.Machine

variable {s : State} {i : Fin 128} {x : Exchange} {j : Job}

theorem State.closeExchange_detached (held : s.tills[i].exchange = some x) (free : ∀ j ∈ s.waiting, x.job ≠ some j.id)
    (n : Nat) : s.closeExchange i n = (s.setExchange i none).releaseRefs x.slot x.bank (1 + n) := by
  rcases s.closeExchange_cases i n with ⟨none, _⟩ | ⟨y, held', _, h⟩ | ⟨y, j, held', waits, named, _⟩
  · exact absurd (held.symm.trans none) (by simp)
  · cases held.symm.trans held'
    exact h
  · cases held.symm.trans held'
    exact absurd named (free j waits)

/-- The waiting job that the exchange names is removed; identities are distinct, so it is the one found. -/
theorem State.closeExchange_waiting (held : s.tills[i].exchange = some x) (distinct : (s.waiting.map (·.id)).Nodup)
    (waits : j ∈ s.waiting) (named : x.job = some j.id) (n : Nat) :
    s.closeExchange i n = (((s.setExchange i none).removeJob j).releaseRefs x.slot x.bank 2).admitWaiting := by
  rcases s.closeExchange_cases i n with ⟨none, _⟩ | ⟨y, held', free, _⟩ | ⟨y, k, held', waits', named', h⟩
  · exact absurd (held.symm.trans none) (by simp)
  · cases held.symm.trans held'
    exact absurd named (free j waits)
  · cases held.symm.trans held'
    have same : k = j := List.inj_on_of_nodup_map distinct waits' waits (Option.some.inj (named'.symm.trans named))
    exact same ▸ h

/-- An exchange of which one job field is empty names the job of the other. -/
theorem Exchange.job_eq_some (one : x.wrapJob = none ∨ x.verifyJob = none) (n : Nat) :
    x.job = some n ↔ x.wrapJob = some n ∨ x.verifyJob = some n := by
  unfold Exchange.job
  cases wraps : x.wrapJob with
  | none => simp
  | some m =>
    have verifies : x.verifyJob = none := one.resolve_left (by simp [wraps])
    simp [verifies]

/-- R63 by the count that is reached. -/
theorem KeyBank.release_eq (b : KeyBank) (n : Nat) :
    b.release n = if b.state = .draining ∧ b.refs ≤ n then KeyBank.cleared else { b with refs := b.refs - n } := by
  unfold KeyBank.release
  simp only [Nat.sub_eq_zero_iff_le]

/-! ## The job waiting in MGU (R113) -/

theorem State.admitWaiting_of_none (none : s.mgmtWaiting = none) : s.admitWaiting = s := by
  rw [State.admitWaiting, none]

theorem State.admitWaiting_of_room (waits : s.mgmtWaiting = some j) (room : s.occupied < 64) :
    s.admitWaiting = ({ s with mgmtWaiting := none } : State).enterJob j := by
  rw [State.admitWaiting, waits]
  exact if_pos room

end Sys2Proof.Machine
end

section
/-! R107, R117, R63, R113: what a close releases. -/

open Sys2Proof Sys2Proof.Machine

/-- Settles O25: a close is one of two, as the job that the exchange names waits or not. -/
theorem closingReleasesTheHoldings : Obligations.ClosingReleasesTheHoldings := by
  intro s i n x held distinct one released closed
  have release : ∀ m, (s.bank x.slot x.bank).release m = released m := KeyBank.release_eq _
  refine ⟨fun free => ?_, fun j waits k named frame => ?_⟩
  · have detached : ∀ j ∈ s.waiting, x.job ≠ some j.id := fun j waits named =>
      ((Exchange.job_eq_some one j.id).mp named).elim (free j waits).1 (free j waits).2
    rw [State.closeExchange_detached held detached, ← release]
    rfl
  · have removed : ((s.setExchange i none).removeJob j).releaseRefs x.slot x.bank 2 =
        ({ closed with
          waiting := s.waiting.filter fun w => w.id ≠ j.id
          frames := s.frames.set k []
          freeSlots := s.freeSlots ++ [k] } : State).setBank x.slot x.bank (released 2) := by
      unfold State.removeJob
      rw [frame, ← release]
      rfl
    rw [State.closeExchange_waiting held distinct waits ((Exchange.job_eq_some one j.id).mpr named), removed]
    exact ⟨fun none => State.admitWaiting_of_none (by exact none),
      fun m waits room => State.admitWaiting_of_room (by exact waits) room⟩
end

section
/-! SUPPORT. The arbiter's acts one by one (R20), and the stand-in buffer (R109, R110). -/

namespace Sys2Proof.Machine

variable {s a : State} {p : PortId}

/-! ## The arbiter (R20) -/

theorem State.arbiter_rests (rests : (s.port p).link = .down ∨ (s.port p).sending.isSome = true ∨
    (s.port p).bridge = [] ∧ (s.port p).ownQueue = []) : s.arbiter p = s := by
  rcases s.arbiter_cases p with ⟨same, _⟩ | ⟨f, rest, idle, up, bridge, _, _⟩ | ⟨e, rest, idle, up, queue, _, _⟩
  · exact same
  all_goals
    rcases rests with down | busy | ⟨no_bridge, no_queue⟩
    · cases up.symm.trans down
    · rw [idle] at busy
      cases busy
  · cases bridge.symm.trans no_bridge
  · cases queue.symm.trans no_queue

theorem State.arbiter_takesBridged {f : Bytes} {rest : List Bytes} (up : (s.port p).link = .up)
    (idle : (s.port p).sending = none) (bridge : (s.port p).bridge = f :: rest)
    (turn : (s.port p).ownQueue = [] ∨ (s.port p).lastServed = .own) : s.arbiter p = s.takeBridged p f rest := by
  rcases s.arbiter_cases p with ⟨_, rests⟩ | ⟨g, rest', _, _, bridge', _, took⟩ | ⟨e, _, _, _, queue, turn', _⟩
  · rcases rests with busy | down | ⟨none, _⟩
    · simp [idle] at busy
    · cases up.symm.trans down
    · cases bridge.symm.trans none
  · cases bridge.symm.trans bridge'
    exact took
  · rcases turn with none | own
    · cases queue.symm.trans none
    · rcases turn' with none | bridged
      · cases bridge.symm.trans none
      · cases own.symm.trans bridged

theorem State.arbiter_takesOwn {e : OwnEntry} {rest : List OwnEntry} (up : (s.port p).link = .up)
    (idle : (s.port p).sending = none) (queue : (s.port p).ownQueue = e :: rest)
    (turn : (s.port p).bridge = [] ∨ (s.port p).lastServed = .bridge) : s.arbiter p = s.takeOwn p e rest := by
  rcases s.arbiter_cases p with ⟨_, rests⟩ | ⟨g, _, _, _, bridge, turn', _⟩ | ⟨e', rest', _, _, queue', _, took⟩
  · rcases rests with busy | down | ⟨_, none⟩
    · simp [idle] at busy
    · cases up.symm.trans down
    · cases queue.symm.trans none
  · rcases turn with none | bridged
    · cases bridge.symm.trans none
    · rcases turn' with none | own
      · cases queue.symm.trans none
      · cases own.symm.trans bridged
  · cases queue.symm.trans queue'
    exact took

/-! ## The first free entry -/

theorem firstFree_eq_some_iff {α : Type} {n : Nat} {v : Vector (Option α) n} {i : Fin n} :
    firstFree v = some i ↔ v[i] = none ∧ ∀ j : Fin n, j < i → v[j].isSome = true := by
  unfold firstFree
  rw [List.find?_eq_some_iff_getElem]
  constructor
  · rintro ⟨free, k, below, found, used⟩
    have at_k : k = i.val := by simpa using congrArg Fin.val found
    subst at_k
    refine ⟨by simpa using free, fun j less => ?_⟩
    simpa using used j.val less
  · rintro ⟨free, used⟩
    refine ⟨by simp [free], i.val, by simp, by simp, fun j less => ?_⟩
    simpa using used ⟨j, less.trans i.isLt⟩ less

theorem firstFree_of_full {α : Type} {n : Nat} {v : Vector (Option α) n} (full : ∀ i : Fin n, v[i].isSome = true) :
    firstFree v = none := by
  cases found : firstFree v with
  | none => rfl
  | some i =>
    have used := full i
    rw [firstFree_eq_some found] at used
    cases used

/-! ## Stand-ins (R109, R110) -/

/-- The decision moves counts and statuses alone. -/
theorem State.countStandIn_shape (s : State) (i : Fin 128) (r : Reason) :
    ∃ st cs k, s.countStandIn i r =
      { s with status := st, counters := cs, tills := s.tills.set i (s.tills[i].setStat .refusals k) } := by
  unfold State.countStandIn
  split
  · have same : s.tills.set i (s.tills[i].setStat .refusals s.tills[i].refusals) = s.tills :=
      Vector.set_getElem_self i.isLt
    exact ⟨_, _, s.tills[i].refusals, by rw [same, State.bump_eq]⟩
  · rw [State.bumpStat_eq, State.bump_eq]
    exact ⟨_, _, _, rfl⟩

theorem State.countStandIn_tillHeaders (s : State) (i : Fin 128) (r : Reason) (port : UdpPort) :
    (s.countStandIn i r).tillHeaders i port = s.tillHeaders i port := by
  obtain ⟨st, cs, k, count⟩ := s.countStandIn_shape i r
  have same : (s.tills.set i (s.tills[i].setStat .refusals k))[i] = s.tills[i].setStat .refusals k := by simp
  rw [count]
  unfold State.tillHeaders
  dsimp only
  rw [same]
  rfl

section
variable {i : Fin 128} {r : Reason} {q : Option Sequence} {port : UdpPort} {e : Fin 16}

theorem State.buildStandIn_of_full (full : ∀ e : Fin 16, a.standIns[e].isSome = true) :
    a.buildStandIn i r q port = a.bump .standInDrops := by
  rw [State.buildStandIn, firstFree_of_full full]

/-- The stand-in in its buffer entry. -/
def State.withStandIn (a : State) (e : Fin 16) (f : Bytes) : State :=
  { a with standIns := a.standIns.set e (some f), ident := a.ident + 1 }

theorem State.buildStandIn_of_free (free : firstFree a.standIns = some e) :
    a.buildStandIn i r q port =
      ((a.withStandIn e (buildUdp (a.tillHeaders i port) (standInPayload r q))).offerOwn .T (.standIn e)).1 := by
  rw [State.buildStandIn, free]
  rfl

theorem State.withStandIn_down {f : Bytes} (free : a.standIns[e] = none) (down : a.portT.link = .down) :
    ((a.withStandIn e f).offerOwn .T (.standIn e)).1 = { a with ident := a.ident + 1 } := by
  have emptied : (a.standIns.set e (some f)).set e none = a.standIns := by
    rw [Vector.set_set]
    exact free ▸ Vector.set_getElem_self e.isLt
  unfold State.offerOwn
  rw [if_pos (show ((a.withStandIn e f).port .T).link = .down from down)]
  exact congrArg (fun v => { a with standIns := v, ident := a.ident + 1 }) emptied

/-- An UP port T queues the stand-in. -/
theorem State.withStandIn_up {f : Bytes} (up : a.portT.link = .up) :
    ((a.withStandIn e f).offerOwn .T (.standIn e)).1 =
      ((a.withStandIn e f).setPort .T { a.portT with ownQueue := a.portT.ownQueue ++ [.standIn e] }).arbiter .T := by
  unfold State.offerOwn
  rw [if_neg (show ((a.withStandIn e f).port .T).link ≠ .down by
    change a.portT.link ≠ .down
    rw [up]
    decide), if_neg (fun block => nomatch block.1)]
  rfl

theorem State.withStandIn_idle {f : Bytes} (up : a.portT.link = .up) (idle : a.portT.sending = none)
    (queue : a.portT.ownQueue = []) (bridge : a.portT.bridge = []) :
    ((a.withStandIn e f).offerOwn .T (.standIn e)).1 =
      (a.withStandIn e f).setPort .T
        { a.portT with
          sending := some { kind := .own (.standIn e), frame := f, wire := wireImage f }, lastServed := .own } := by
  have held : ((a.withStandIn e f).standIns[e]).getD [] = f := by simp [State.withStandIn]
  rw [State.withStandIn_up up, queue]
  refine (State.arbiter_takesOwn (e := .standIn e) (rest := []) (by exact up) (by exact idle) (by rfl) (.inl (by exact bridge))).trans ?_
  unfold State.takeOwn State.heldFrame
  dsimp only
  rw [State.setPort_standIns, held]
  exact congrArg (fun own => (a.withStandIn e f).setPort .T
    { a.portT with
      sending := some { kind := .own (.standIn e), frame := f, wire := wireImage f }
      lastServed := .own, ownQueue := own }) queue.symm

end

end Sys2Proof.Machine
end

section
/-! R20, R109, R110, R157, R195: the arbiter and the stand-ins. -/

open Sys2Proof Sys2Proof.Machine

/-- Settles O27: the arbiter's acts, one for each turn. -/
theorem arbiterTakesInTurn : Obligations.ArbiterTakesInTurn := by
  intro s p x image
  refine ⟨State.arbiter_rests, fun f rest up idle bridge turn => State.arbiter_takesBridged up idle bridge turn,
    fun e rest up idle queue turn => ?_⟩
  intro f s1
  rw [State.arbiter_takesOwn up idle queue turn]
  cases e <;> rfl

/-- Settles O26: the decision counts; the build is one case for each state of the buffer and of port T. -/
theorem standInIsCountedBuiltAndOffered : Obligations.StandInIsCountedBuiltAndOffered := by
  intro s i r q port d payload frame
  have count : s.countStandIn i r = d := rfl
  obtain ⟨st, cs, k, shape⟩ := s.countStandIn_shape i r
  have standIns : d.standIns = s.standIns := by rw [← count, shape]
  have portT : d.portT = s.portT := by rw [← count, shape]
  have ident : d.ident = s.ident := by rw [← count, shape]
  have built_frame : buildUdp (d.tillHeaders i port) (standInPayload r q) = frame :=
    congrArg (buildUdp · _) (count ▸ s.countStandIn_tillHeaders i r port)
  rw [State.standIn, count]
  clear_value d frame
  rw [← standIns, ← portT, ← ident]
  refine ⟨State.buildStandIn_of_full, fun e free used => ?_⟩
  intro built
  rw [State.buildStandIn_of_free (firstFree_eq_some_iff.mpr ⟨free, used⟩), built_frame]
  refine ⟨State.withStandIn_down free, fun up busy => ?_, fun up idle queue bridge => ?_⟩
  · rw [State.withStandIn_up up, State.arbiter_rests (.inr (.inl (by exact busy)))]
    rfl
  · exact State.withStandIn_idle up idle queue bridge
end

section
/-! SUPPORT. The constructions of Chapter 6 byte for byte (R122 to R130). -/

namespace Sys2Proof.Machine

/-! ## Numbers of a byte string -/

/-- A byte string is the field of its number. -/
theorem beBytes_beNat (bs : Bytes) : beBytes bs.length (beNat bs) = bs := by
  have add : ∀ (w q n : Nat), beBytes w (q * 256 ^ w + n) = beBytes w n := by
    intro w
    induction w with
    | zero => exact fun _ _ => rfl
    | succ w ih =>
      intro q n
      have parts : q * 256 ^ (w + 1) + n = q * 256 * 256 ^ w + n := by rw [pow_succ]; ring
      rw [beBytes, beBytes, parts, ih, Nat.add_comm, Nat.add_mul_div_right _ _ (by positivity)]
      congr 1
      exact BitVec.eq_of_toNat_eq (by simp only [BitVec.toNat_ofNat]; omega)
  induction bs with
  | nil => rfl
  | cons b bs ih =>
    rw [List.length_cons, beBytes, beNat_cons, add, ih, Nat.add_comm, Nat.add_mul_div_right _ _ (by positivity),
      Nat.div_eq_of_lt (beNat_lt bs), Nat.zero_add, BitVec.ofNat_toNat, BitVec.setWidth_eq]

theorem blockBytes_length (b : Block) : (blockBytes b).length = 16 := beBytes_length 16 _

/-! ## The chained tag (R125) -/

theorem chunks_eq (fuel : Nat) (x : Bytes) (enough : x.length ≤ fuel) :
    chunks fuel x =
      (List.range ((x.length + 15) / 16)).map fun j => ((x ++ List.replicate 15 0).drop (16 * j)).take 16 := by
  induction fuel generalizing x with
  | zero =>
    have empty : x = [] := List.length_eq_zero_iff.mp (by omega)
    subst empty
    rfl
  | succ fuel ih =>
    cases x with
    | nil => rfl
    | cons b bs =>
      have blocks : ((b :: bs).length + 15) / 16 = ((((b :: bs).drop 16).length + 15) / 16) + 1 := by
        rw [List.length_drop, List.length_cons]
        omega
      have head : ((b :: bs) ++ List.replicate 15 0).take 16 =
          (b :: bs).take 16 ++ List.replicate (16 - (b :: bs).length) 0 := by
        rw [List.take_append, List.take_replicate, Nat.min_eq_left (by rw [List.length_cons]; omega)]
      rw [chunks, if_neg (by simp), blocks, List.range_succ_eq_map, List.map_cons, List.map_map,
        ih _ (by simp at enough ⊢; omega), Nat.mul_zero, List.drop_zero, head]
      refine congrArg _ (List.map_congr_left fun j held => ?_)
      have within : 16 ≤ (b :: bs).length := by
        have := List.mem_range.mp held
        rw [List.length_drop] at this
        omega
      rw [Function.comp_apply, show 16 * (j + 1) = 16 + 16 * j by ring, ← List.drop_drop,
        List.drop_append_of_le_length within]

theorem chainedTag_eq (key : Key) (h x : Bytes) : chainedTag key h x = tagOver key h x := by
  unfold chainedTag tagOver
  rw [chunks_eq _ _ le_rfl, List.foldl_map]

/-! ## Counter mode (R124) -/

theorem getElem?_flatten_blocks (f : Nat → Bytes) (blocks : ∀ j, (f j).length = 16) (k n : Nat) (below : n < 16 * k) :
    (((List.range k).map f).flatten)[n]? = (f (n / 16))[n % 16]? := by
  have length : ∀ k, (((List.range k).map f).flatten).length = 16 * k := by
    intro k
    induction k with
    | zero => rfl
    | succ k ih => rw [List.range_succ, List.map_append, List.flatten_append, List.length_append, ih]; simp [blocks]; ring
  induction k with
  | zero => omega
  | succ k ih =>
    rw [List.range_succ, List.map_append, List.flatten_append]
    by_cases early : n < 16 * k
    · rw [List.getElem?_append_left (by rw [length]; exact early), ih early]
    · have last : n / 16 = k := by omega
      have rest : n - 16 * k = n % 16 := by omega
      rw [List.getElem?_append_right (by rw [length]; omega), length, last, rest]
      simp

theorem keystream_length (key : Key) (t : JobTarget) (n : Nat) : (keystream key t n).length = n := by
  have length : ∀ k, (((List.range k).map fun j => blockBytes (cipherE key (counterBlock t j))).flatten).length = 16 * k := by
    intro k
    induction k with
    | zero => rfl
    | succ k ih =>
      rw [List.range_succ, List.map_append, List.flatten_append, List.length_append, ih]
      simp [blockBytes_length]
      ring
  rw [keystream, List.length_take, length]
  omega

/-- Byte `i` of the keystream is byte `i mod 16` of block `i / 16`. -/
theorem getElem_keystream {key : Key} {t : JobTarget} {n i : Nat} (below : i < (keystream key t n).length) :
    (keystream key t n)[i] = byteAt (blockBytes (cipherE key (counterBlock t (i / 16)))) (i % 16) := by
  have short : i < n := by rwa [keystream_length] at below
  have found := getElem?_flatten_blocks (fun j => blockBytes (cipherE key (counterBlock t j)))
    (fun j => blockBytes_length _) ((n + 15) / 16) i (by omega)
  have within : i % 16 < (blockBytes (cipherE key (counterBlock t (i / 16)))).length := by
    rw [blockBytes_length]
    omega
  refine Option.some.inj ?_
  rw [← List.getElem?_eq_getElem, keystream, List.getElem?_take_of_lt short, found, List.getElem?_eq_getElem within, byteAt,
    List.getD_eq_getElem _ _ within]

theorem xorBytes_keystream (key : Key) (t : JobTarget) (plain : Bytes) :
    xorBytes plain (keystream key t plain.length) = t.enciphers key plain := by
  refine List.ext_getElem (by simp [xorBytes, JobTarget.enciphers, keystream_length]) fun n left right => ?_
  simp only [xorBytes, JobTarget.enciphers, List.getElem_zipWith, List.getElem_mapIdx, getElem_keystream]
  rfl

/-! ## Digits as bytes (R34, R123, R143, R144) -/

theorem digitByte_packed_cons (d e : Digit) (rest : List Digit) (q : Nat) :
    digitByte .packed (d :: e :: rest) (q + 1) = digitByte .packed rest q := by
  simp only [digitByte, List.map_cons, show 2 * (q + 1) = 2 * q + 1 + 1 by ring, List.getD_cons_succ]

theorem packDigits_eq (ds : List Digit) :
    packDigits ds = (List.range ((ds.length + 1) / 2)).map (digitByte .packed ds) := by
  match ds with
  | [] => rfl
  | [d] => simp [packDigits, digitByte, Nat.mul_comm]
  | d :: e :: rest =>
    have half : ((d :: e :: rest).length + 1) / 2 = (rest.length + 1) / 2 + 1 := by
      simp only [List.length_cons]
      omega
    have later : digitByte .packed (d :: e :: rest) ∘ Nat.succ = digitByte .packed rest :=
      funext fun q => digitByte_packed_cons d e rest q
    rw [packDigits, packDigits_eq rest, half, List.range_succ_eq_map, List.map_cons, List.map_map, later]
    simp [digitByte, Nat.mul_comm]

theorem asciiDigits_eq (ds : List Digit) :
    (ds.map fun d => BitVec.ofNat 8 (0x30 + d.val)) = (List.range ds.length).map (digitByte .ascii ds) := by
  refine List.ext_getElem (by simp) fun n left right => ?_
  have below : n < ds.length := by simpa using left
  simp [digitByte, below]

theorem cardPlaintext_eq (c : Capture) : cardPlaintext c = c.plaintext := by
  unfold cardPlaintext Capture.plaintext
  cases c.card with
  | none => rfl
  | some k => exact congrArg (· ++ k.companion) (packDigits_eq k.digits)

/-! ## The rewritten message (R126) -/

theorem getElem?_overwrite {bs new : Bytes} {o : Nat} (within : o + new.length ≤ bs.length) (n : Nat) :
    (overwrite bs o new)[n]? = if o ≤ n ∧ n < o + new.length then new[n - o]? else bs[n]? := by
  have start : (bs.take o).length = o := by rw [List.length_take]; omega
  rw [overwrite, List.append_assoc]
  by_cases before : n < o
  · rw [if_neg (by omega), List.getElem?_append_left (by omega), List.getElem?_take_of_lt before]
  · rw [List.getElem?_append_right (by omega), start]
    by_cases inside : n < o + new.length
    · rw [if_pos (by omega), List.getElem?_append_left (by omega)]
    · rw [if_neg (by omega), List.getElem?_append_right (by omega), List.getElem?_drop]
      congr 1
      omega

theorem overwrite_length {bs new : Bytes} {o : Nat} (within : o + new.length ≤ bs.length) :
    (overwrite bs o new).length = bs.length := by
  simp only [overwrite, List.length_append, List.length_take, List.length_drop]
  omega

/-- The bytes of digits in an encoding. -/
def digitWidth (enc : Encoding) (n : Nat) : Nat :=
  match enc with
  | .ascii => n
  | .packed => (n + 1) / 2

theorem encodeDigits_eq (enc : Encoding) (ds : List Digit) :
    encodeDigits enc ds = (List.range (digitWidth enc ds.length)).map (digitByte enc ds) := by
  cases enc with
  | ascii => exact asciiDigits_eq ds
  | packed => exact packDigits_eq ds

theorem encodeDigits_length (enc : Encoding) (ds : List Digit) :
    (encodeDigits enc ds).length = digitWidth enc ds.length := by
  simp [encodeDigits_eq]

theorem getElem?_encodeDigits {enc : Encoding} {ds : List Digit} {n : Nat} (below : n < digitWidth enc ds.length) :
    (encodeDigits enc ds)[n]? = some (digitByte enc ds n) := by
  rw [encodeDigits_eq, List.getElem?_map, List.getElem?_range below]
  rfl

theorem rewriteMessage_eq {c : Capture} {m : Bytes} (within : c.Within m) {ds : List Digit}
    (length : ∀ k ∈ c.card, ds.length = k.digits.length) : rewriteMessage c ds m = c.rewritten ds m := by
  unfold rewriteMessage Capture.rewritten
  cases card : c.card with
  | none => rfl
  | some k =>
    obtain ⟨_, _, pan, companion⟩ := within k card
    have width : k.panOffset + (encodeDigits k.encoding ds).length ≤ m.length := by
      rw [encodeDigits_length, length k card]
      exact pan
    have digits (n : Nat) : (overwrite m k.panOffset (encodeDigits k.encoding ds))[n]? =
        m[n]?.map fun b =>
          if k.panOffset ≤ n ∧ n < k.panOffset + digitWidth k.encoding ds.length then
            digitByte k.encoding ds (n - k.panOffset)
          else b := by
      rw [getElem?_overwrite width, encodeDigits_length]
      rw [encodeDigits_length] at width
      by_cases inside : k.panOffset ≤ n ∧ n < k.panOffset + digitWidth k.encoding ds.length
      · simp only [inside, and_self, if_true]
        rw [getElem?_encodeDigits (by omega), List.getElem?_eq_getElem (show n < m.length by omega)]
        rfl
      · simp only [inside, if_false, Option.map_id']
    refine List.ext_getElem? fun n => ?_
    rw [List.getElem?_mapIdx]
    change (if k.companion.length = 0 then overwrite m k.panOffset (encodeDigits k.encoding ds)
      else overwrite (overwrite m k.panOffset (encodeDigits k.encoding ds)) k.companionOffset
        (List.replicate k.companion.length c.fill))[n]? = m[n]?.map fun b =>
          if k.companionOffset ≤ n ∧ n < k.companionOffset + k.companion.length then c.fill
          else if k.panOffset ≤ n ∧ n < k.panOffset + digitWidth k.encoding ds.length then
            digitByte k.encoding ds (n - k.panOffset)
          else b
    by_cases empty : k.companion.length = 0
    · have outside : ¬ (k.companionOffset ≤ n ∧ n < k.companionOffset + k.companion.length) := by omega
      simp only [empty, if_true, digits]
      simp only [empty] at outside
      simp only [outside, if_false]
    · have fits : k.companionOffset + k.companion.length ≤ m.length :=
        companion.resolve_left fun none => empty (by rw [none]; rfl)
      rw [if_neg empty, getElem?_overwrite (by rw [overwrite_length width, List.length_replicate]; exact fits), digits,
        List.length_replicate]
      by_cases inside : k.companionOffset ≤ n ∧ n < k.companionOffset + k.companion.length
      · simp only [inside, and_self, if_true]
        rw [List.getElem?_replicate_of_lt (by omega), List.getElem?_eq_getElem (show n < m.length by omega)]
        rfl
      · simp only [inside, if_false]

/-! ## The surrogate's length (R139) -/

theorem candidateDigits_length {ds : List Digit} (low : 13 ≤ ds.length) (high : ds.length ≤ 19) (b : Block) :
    (candidateDigits ds (surrogateKeystream ds (blockBytes b))).length = ds.length := by
  simp only [candidateDigits, surrogateKeystream, middleDigits, List.length_append, List.length_take, List.length_zipWith,
    List.length_drop, List.length_map, blockBytes_length]
  omega

theorem surrogateOf_length (c : List Digit) : (surrogateOf c).length = c.length := by
  unfold surrogateOf adjustDigits
  split <;> simp

theorem surrogateWork_length {ds : List Digit} (low : 13 ≤ ds.length) (high : ds.length ≤ 19) (k : Key) :
    (surrogateWork k ds).surrogate.length = ds.length :=
  (surrogateOf_length _).trans (candidateDigits_length low high _)

/-! ## The work of each job (R126 to R130) -/

theorem wrapValues_computed (k : KeyBank) (t : JobTarget) (c : Capture) (m : Bytes) :
    (wrapValues k.wrapKey k.surKey t c m).Computed k t c m where
  encKey := rfl
  tagKey := rfl
  surrogate := rfl
  cipherText := by
    change xorBytes (cardPlaintext c) (keystream _ t (cardPlaintext c).length) = _
    rw [xorBytes_keystream, cardPlaintext_eq]
    rfl
  header := by
    have lengths : panLength c = c.card.elim 0 (·.digits.length) ∧
        companionLength c = c.card.elim 0 (·.companion.length) := by
      unfold panLength companionLength
      cases c.card <;> exact ⟨rfl, rfl⟩
    change trailerHeader t c = _
    rw [trailerHeader, lengths.1, lengths.2]
  tag within := by
    have digits : (wrapValues k.wrapKey k.surKey t c m).surrogate.elim [] (·.surrogate) =
        (match (wrapValues k.wrapKey k.surKey t c m).surrogate with
        | none => []
        | some w => w.surrogate) := by
      cases (wrapValues k.wrapKey k.surKey t c m).surrogate <;> rfl
    have length : ∀ d ∈ c.card,
        ((wrapValues k.wrapKey k.surKey t c m).surrogate.elim [] (·.surrogate)).length = d.digits.length := by
      intro d held
      obtain ⟨low, high, _⟩ := within d held
      change ((c.card.map fun d => surrogateWork k.surKey d.digits).elim [] (·.surrogate)).length = _
      rw [show c.card = some d from held]
      exact surrogateWork_length low high _
    rw [← rewriteMessage_eq within length, ← chainedTag_eq, digits]
    rfl

theorem verifyValues_computed (k : KeyBank) (t : JobTarget) (trailer m : Bytes) (n : Nat) :
    (verifyValues k.wrapKey t trailer m n).Computed k t trailer m n where
  encKey := rfl
  tagKey := rfl
  pass := by
    rw [← chainedTag_eq]
    exact beq_iff_eq

/-- A computed check value agrees when its three bytes do. -/
theorem checkValue_eq_iff (key : Key) (v : CheckValue) :
    checkValue key = v ↔ beBytes 3 v.toNat = (blockBytes (cipherE key 0)).take 3 := by
  have length : ((blockBytes (cipherE key 0)).take 3).length = 3 := by simp [blockBytes_length]
  have value : checkValue key = BitVec.ofNat 24 (beNat ((blockBytes (cipherE key 0)).take 3)) := rfl
  have below := beNat_lt ((blockBytes (cipherE key 0)).take 3)
  have bytes := beBytes_beNat ((blockBytes (cipherE key 0)).take 3)
  rw [length] at below bytes
  rw [value]
  constructor
  · rintro rfl
    rw [BitVec.toNat_ofNat, Nat.mod_eq_of_lt (by simpa using below), bytes]
  · intro same
    rw [← same, beNat_beBytes]
    exact BitVec.eq_of_toNat_eq (by rw [BitVec.toNat_ofNat]; have := v.isLt; omega)

theorem unwrapPasses_iff (ktk : Key) (given : List (Key × CheckValue)) :
    unwrapPasses ktk given = true ↔
      ∀ x ∈ given, beBytes 3 x.2.toNat = (blockBytes (cipherE (cipherD ktk x.1) 0)).take 3 := by
  simp only [unwrapPasses, List.all_eq_true, beq_iff_eq, checkValue_eq_iff]

end Sys2Proof.Machine
end

section
/-! SUPPORT. The lanes' turns (R112 to R116). -/

namespace Sys2Proof.Machine

variable {s : State} {l : Fin 4} {j : Job} {rest : List Job}

theorem State.takeOn_of_none (waiting : s.waiting = []) : s.takeOn l = s := by
  rw [State.takeOn, waiting]

theorem State.takeOn_of_cons (waiting : s.waiting = j :: rest) :
    s.takeOn l = { s with waiting := rest, lanes := s.lanes.set l (some (s.startJob j)) } := by
  rw [State.takeOn, waiting]

theorem State.enterJob_idle (waiting : s.waiting = []) (first : firstFree s.lanes = some l) :
    s.enterJob j = { s with lanes := s.lanes.set l (some (s.startJob j)) } := by
  have alone : s.waiting ++ [j] = [j] := by rw [waiting]; rfl
  unfold State.enterJob State.takeJob
  rw [alone, first]
  exact congrArg (fun w => { s with waiting := w, lanes := s.lanes.set l (some (s.startJob j)) }) waiting.symm

theorem State.enterJob_full (full : ∀ l : Fin 4, s.lanes[l].isSome = true) :
    s.enterJob j = { s with waiting := s.waiting ++ [j] } := by
  unfold State.enterJob State.takeJob
  rw [firstFree_of_full full]

theorem State.finishLane_of_none (waiting : s.waiting = []) :
    s.finishLane l = ({ s with lanes := s.lanes.set l none } : State).admitWaiting :=
  congrArg State.admitWaiting (State.takeOn_of_none (by exact waiting))

/-- The lane that has completed takes the oldest job; the lane's own job is gone before (R116). -/
theorem State.finishLane_of_cons (waiting : s.waiting = j :: rest) :
    s.finishLane l =
      ({ s with waiting := rest, lanes := s.lanes.set l (some (s.startJob j)) } : State).admitWaiting := by
  refine congrArg State.admitWaiting ((State.takeOn_of_cons (by exact waiting)).trans ?_)
  dsimp only
  rw [Vector.set_set]
  rfl

end Sys2Proof.Machine
end

section
/-! R112 to R116, R122 to R130: the lanes and the work of a job. -/

open Sys2Proof Sys2Proof.Machine

/-- Settles O28: the lanes' turns one by one, then the values of each kind of job. -/
theorem lanesTakeTheOldestJob : Obligations.LanesTakeTheOldestJob := by
  intro s
  refine ⟨fun j l waiting idle used => State.enterJob_idle waiting (firstFree_eq_some_iff.mpr ⟨idle, used⟩),
    fun j full => State.enterJob_full full, fun l waiting none => ?_, fun l j rest waiting => ?_,
    fun id g c d => ⟨_, rfl, wrapValues_computed _ g c _⟩,
    fun id g trailer n => ⟨_, rfl, verifyValues_computed _ g trailer _ n⟩, fun id k => ⟨_, rfl, ?_⟩, fun id k => ?_,
    fun id ktk given => ⟨_, _, rfl, unwrapPasses_iff ktk given, rfl⟩⟩
  · rw [State.finishLane_of_none waiting]
    exact State.admitWaiting_of_none (by exact none)
  · rw [State.finishLane_of_cons waiting]
    refine ⟨fun none => State.admitWaiting_of_none (by exact none), fun m waits room full => ?_⟩
    rw [State.admitWaiting_of_room (by exact waits) room]
    exact State.enterJob_full full
  · rw [← chainedTag_eq]
    exact beq_iff_eq
  · rw [← chainedTag_eq]
    rfl
end

section
/-! SUPPORT. The surrogate digit by digit, and the mod-10 check of its adjustment (R134, R137 to R142). -/

namespace Sys2Proof.Machine

/-! ## The mod-10 check (R134) -/

/-- A digit with four digits after it stands at an odd position, and contributes itself. -/
theorem checkSum_append (pre post : List Digit) (d : Digit) (four : post.length = 4) :
    checkSum (pre ++ d :: post) = checkSum post + d.val + checkSumFrom true pre.reverse := by
  match post, four with
  | [w, x, y, z], _ => simp [checkSum, checkSumFrom, contribution, Nat.add_assoc]

/-- Raising that digit by 1 modulo 10 raises the sum by 1 modulo 10 (R142). -/
theorem checkSum_raised (pre post : List Digit) (d : Digit) (four : post.length = 4) :
    checkSum (pre ++ (d + 1) :: post) % 10 = (checkSum (pre ++ d :: post) + 1) % 10 := by
  have raised : (d + 1).val = (d.val + 1) % 10 := by
    rw [Fin.val_add]
    rfl
  rw [checkSum_append _ _ _ four, checkSum_append _ _ _ four, raised]
  omega

theorem mod10Passes_adjustDigits {cs : List Digit} (long : 5 ≤ cs.length) (passes : mod10Passes cs = true) :
    mod10Passes (adjustDigits cs) = false := by
  have at_ : cs.length - 5 < cs.length := by omega
  have parts : cs = cs.take (cs.length - 5) ++ cs[cs.length - 5] :: cs.drop (cs.length - 5 + 1) := by
    rw [← List.drop_eq_getElem_cons at_, List.take_append_drop]
  have four : (cs.drop (cs.length - 5 + 1)).length = 4 := by rw [List.length_drop]; omega
  have sum : checkSum cs % 10 = 0 := by simpa [mod10Passes] using passes
  have raised := checkSum_raised (cs.take (cs.length - 5)) (cs.drop (cs.length - 5 + 1)) cs[cs.length - 5] four
  rw [← parts] at raised
  unfold mod10Passes adjustDigits
  rw [List.modify_eq_take_cons_drop at_, raised]
  simp only [beq_eq_false_iff_ne]
  omega

theorem mod10Passes_surrogateOf {cs : List Digit} (long : 5 ≤ cs.length) : mod10Passes (surrogateOf cs) = false := by
  unfold surrogateOf
  by_cases passes : mod10Passes cs = true
  · rw [if_pos passes]
    exact mod10Passes_adjustDigits long passes
  · rw [if_neg passes]
    exact Bool.eq_false_of_not_eq_true passes

/-! ## The candidate (R137 to R139) -/

theorem surrogateBlock_eq (ds : List Digit) :
    surrogateBlock ds =
      blockOfBytes (((ds.take 6 ++ ds.drop (ds.length - 4)).map fun d => BitVec.ofNat 8 d.val) ++
        [BitVec.ofNat 8 ds.length, 0, 0, 0, 0, 0]) := by
  rw [surrogateBlock, List.append_assoc]
  rfl

/-- A digit raised by a byte modulo 10. -/
theorem digit_add_ofNat (d : Digit) (n : Nat) : d + Fin.ofNat 10 n = Fin.ofNat 10 (d.val + n) :=
  Fin.ext (by simp [Fin.val_add])

/-- Digit `n` of a candidate under the keystream bytes `s`. -/
def candidateDigit (ds : List Digit) (s : Bytes) (n : Nat) (d : Digit) : Digit :=
  if 6 ≤ n ∧ n < ds.length - 4 then Fin.ofNat 10 (d.val + (byteAt s (n - 6)).toNat) else d

theorem candidateDigits_eq {ds : List Digit} (low : 13 ≤ ds.length) (high : ds.length ≤ 19) (b : Block) :
    candidateDigits ds (surrogateKeystream ds (blockBytes b)) = ds.mapIdx (candidateDigit ds (blockBytes b)) := by
  refine List.ext_getElem (by rw [candidateDigits_length low high, List.length_mapIdx]) fun n left right => ?_
  have below : n < ds.length := by simpa using right
  have bytes := blockBytes_length b
  have front : (ds.take 6).length = 6 := by rw [List.length_take]; omega
  have middle : (List.zipWith (· + ·) (middleDigits ds) (surrogateKeystream ds (blockBytes b))).length = ds.length - 10 := by
    simp only [surrogateKeystream, middleDigits, List.length_take, List.length_zipWith, List.length_drop, List.length_map,
      bytes]
    omega
  simp only [candidateDigits, List.getElem_mapIdx, candidateDigit]
  by_cases early : n < 6
  · rw [if_neg (by omega), List.getElem_append_left (by simp only [List.length_append]; omega),
      List.getElem_append_left (by omega), List.getElem_take]
  · by_cases late : n < ds.length - 4
    · rw [if_pos (by omega), List.getElem_append_left (by simp only [List.length_append]; omega),
        List.getElem_append_right (by omega)]
      have within : n - 6 < (blockBytes b).length := by omega
      have back : 6 + (n - 6) = n := by omega
      simp only [front, List.getElem_zipWith, middleDigits, surrogateKeystream, List.getElem_take, List.getElem_drop,
        List.getElem_map, digit_add_ofNat, byteAt, List.getD_eq_getElem _ _ within, back]
    · rw [if_neg (by omega), List.getElem_append_right (by simp only [List.length_append]; omega)]
      simp only [List.length_append, front, middle, List.getElem_drop]
      congr 1
      omega

theorem adjustDigits_eq (cs : List Digit) :
    adjustDigits cs = cs.mapIdx fun n d => if n = cs.length - 5 then d + 1 else d := by
  refine List.ext_getElem (by simp [adjustDigits]) fun n left right => ?_
  simp only [adjustDigits, List.getElem_modify, List.getElem_mapIdx, eq_comm]

/-! ## The ends kept (R142) -/

/-- An adjusted candidate differs from the candidate in its last middle digit at most. -/
theorem getElem?_surrogateOf {cs : List Digit} {n : Nat} (other : n ≠ cs.length - 5) : (surrogateOf cs)[n]? = cs[n]? := by
  unfold surrogateOf adjustDigits
  split
  · exact List.getElem?_modify_ne _ _ (Ne.symm other)
  · rfl

theorem getElem?_candidate {ds : List Digit} {s : Bytes} {n : Nat} (ends : n < 6 ∨ ds.length - 4 ≤ n) :
    (ds.mapIdx (candidateDigit ds s))[n]? = ds[n]? := by
  rw [List.getElem?_mapIdx]
  have kept : candidateDigit ds s n = id := funext fun d => if_neg (by omega)
  rw [kept, Option.map_id, id]

end Sys2Proof.Machine
end

section
/-! R134, R137 to R142: the surrogate. -/

open Sys2Proof Sys2Proof.Machine

/-- Settles O57: the candidate digit by digit, and the adjustment at an odd position, where a digit counts as itself. -/
theorem surrogateKeepsTheEndsAndFailsTheCheck : Obligations.SurrogateKeepsTheEndsAndFailsTheCheck := by
  intro k ds low high r stream candidate
  have made : r = surrogateOf candidate := by
    have from_block : stream = blockBytes (cipherE k (surrogateBlock ds)) := by rw [surrogateBlock_eq]
    have digits := candidateDigits_eq low high (cipherE k (surrogateBlock ds))
    rw [← from_block] at digits
    change surrogateOf (candidateDigits ds (surrogateKeystream ds (blockBytes (cipherE k (surrogateBlock ds))))) = _
    rw [← from_block, digits]
    rfl
  have length : candidate.length = ds.length := List.length_mapIdx
  have kept (n : Nat) (ends : n < 6 ∨ ds.length - 4 ≤ n) : r[n]? = ds[n]? := by
    rw [made, getElem?_surrogateOf (by omega)]
    exact getElem?_candidate ends
  have fails : mod10Passes r = false := made ▸ mod10Passes_surrogateOf (by omega)
  refine ⟨?_, (congrArg _ made).trans ((surrogateOf_length _).trans length), ?_, ?_, fails, fun passes same => ?_⟩
  · rw [made, surrogateOf, adjustDigits_eq, length]
  · refine List.ext_getElem? fun n => ?_
    by_cases early : n < 6
    · rw [List.getElem?_take_of_lt early, List.getElem?_take_of_lt early, kept n (.inl early)]
    · rw [List.getElem?_take_eq_none (by omega), List.getElem?_take_eq_none (by omega)]
  · refine List.ext_getElem? fun n => ?_
    rw [List.getElem?_drop, List.getElem?_drop, kept _ (.inr (by omega))]
  · rw [same, passes] at fails
    cases fails
end

section
/-! SUPPORT. The runs that the number guard reads (R161). -/

namespace Sys2Proof.Machine

variable {bs : Bytes} {b : Byte} {current r : List Digit}

/-- Digit bytes. -/
def Digits (run : Bytes) : Prop := ∀ b ∈ run, isDigitByte b = true

/-- An end of a run: a byte that is no digit byte, or none. -/
def Bounds (b : Option Byte) : Prop := ∀ x ∈ b, isDigitByte x = false

/-- The string begins with digit bytes that no digit byte follows. -/
def Leads (bs run : Bytes) : Prop := ∃ post, bs = run ++ post ∧ Digits run ∧ Bounds post.head?

/-- After some byte that is no digit byte a run begins. -/
def Follows (bs run : Bytes) : Prop := ∃ pre b rest, bs = pre ++ b :: rest ∧ isDigitByte b = false ∧ Leads rest run

theorem leads_nil_iff {run : Bytes} : Leads [] run ↔ run = [] :=
  ⟨fun ⟨_, parts, _⟩ => (List.nil_eq_append_iff.mp parts).1, fun none => ⟨[], by simp [none], by simp [none, Digits], nofun⟩⟩

theorem leads_cons_digit_iff (digit : isDigitByte b = true) {run : Bytes} :
    Leads (b :: bs) run ↔ ∃ tail, run = b :: tail ∧ Leads bs tail := by
  constructor
  · rintro ⟨post, parts, digits, ends⟩
    rcases List.cons_eq_append_iff.mp parts with ⟨_, rfl⟩ | ⟨tail, rfl, rest⟩
    · exact absurd (ends b rfl) (by simp [digit])
    · exact ⟨tail, rfl, post, rest, fun x held => digits x (List.mem_cons_of_mem _ held), ends⟩
  · rintro ⟨tail, rfl, post, rfl, digits, ends⟩
    exact ⟨post, rfl, List.forall_mem_cons.mpr ⟨digit, digits⟩, ends⟩

theorem leads_cons_other_iff (other : isDigitByte b = false) {run : Bytes} : Leads (b :: bs) run ↔ run = [] := by
  constructor
  · rintro ⟨post, parts, digits, _⟩
    rcases List.cons_eq_append_iff.mp parts with ⟨none, _⟩ | ⟨tail, rfl, _⟩
    · exact none
    · have digit := digits b List.mem_cons_self
      rw [other] at digit
      cases digit
  · rintro rfl
    exact ⟨b :: bs, rfl, nofun, fun x held => Option.some.inj held ▸ other⟩

theorem not_follows_nil {run : Bytes} : ¬ Follows [] run := by
  rintro ⟨pre, b, rest, parts, _⟩
  simp at parts

theorem follows_cons_iff {run : Bytes} :
    Follows (b :: bs) run ↔ (isDigitByte b = false ∧ Leads bs run) ∨ Follows bs run := by
  constructor
  · rintro ⟨pre, x, rest, parts, other, leads⟩
    rcases List.cons_eq_append_iff.mp parts with ⟨_, same⟩ | ⟨pre', _, rest'⟩
    · cases same
      exact .inl ⟨other, leads⟩
    · exact .inr ⟨pre', x, rest, rest', other, leads⟩
  · rintro (⟨other, leads⟩ | ⟨pre, x, rest, rfl, other, leads⟩)
    · exact ⟨[], b, bs, rfl, other, leads⟩
    · exact ⟨b :: pre, x, rest, rfl, other, leads⟩

/-- The runs read are the first one, joined to the digits already read, and every later one. -/
theorem mem_runsFrom (current : List Digit) (bs : Bytes) (r : List Digit) :
    r ∈ runsFrom current bs ↔
      (∃ run, Leads bs run ∧ r = current.reverse ++ run.map digitOf) ∨ ∃ run, Follows bs run ∧ r = run.map digitOf := by
  induction bs generalizing current with
  | nil => simp [runsFrom, leads_nil_iff, not_follows_nil]
  | cons b bs ih =>
    rw [runsFrom]
    by_cases digit : isDigitByte b = true
    · rw [if_pos digit, ih]
      simp only [leads_cons_digit_iff digit, follows_cons_iff, digit, Bool.true_eq_false, false_and, false_or]
      refine or_congr_left ⟨?_, ?_⟩
      · rintro ⟨run, leads, rfl⟩
        exact ⟨b :: run, ⟨run, rfl, leads⟩, by simp⟩
      · rintro ⟨_, ⟨run, rfl, leads⟩, rfl⟩
        exact ⟨run, leads, by simp⟩
    · have other : isDigitByte b = false := Bool.eq_false_of_not_eq_true digit
      rw [if_neg digit, List.mem_cons, ih]
      simp only [leads_cons_other_iff other, follows_cons_iff, other, true_and, List.reverse_nil, List.nil_append,
        exists_eq_left, List.map_nil, List.append_nil]
      refine or_congr_right ?_
      simp only [or_and_right, exists_or]

/-- A maximal run of digit bytes, between what comes before and after it. -/
theorem leads_or_follows_iff {run : Bytes} :
    Leads bs run ∨ Follows bs run ↔
      ∃ pre post, bs = pre ++ run ++ post ∧ Digits run ∧ Bounds pre.getLast? ∧ Bounds post.head? := by
  constructor
  · rintro (⟨post, rfl, digits, ends⟩ | ⟨pre, b, rest, rfl, other, post, rfl, digits, ends⟩)
    · exact ⟨[], post, rfl, digits, nofun, ends⟩
    · refine ⟨pre ++ [b], post, by simp, digits, fun x held => ?_, ends⟩
      rw [List.getLast?_concat] at held
      exact Option.some.inj held ▸ other
  · rintro ⟨pre, post, rfl, digits, starts, ends⟩
    rcases List.eq_nil_or_concat pre with rfl | ⟨pre', b, rfl⟩
    · exact .inl ⟨post, rfl, digits, ends⟩
    · exact .inr ⟨pre', b, run ++ post, by simp, starts b (by simp), post, rfl, digits, ends⟩

theorem isDigitByte_iff (b : Byte) : isDigitByte b = true ↔ 0x30 ≤ b.toNat ∧ b.toNat ≤ 0x39 := by
  simp [isDigitByte]

theorem bounds_iff (b : Option Byte) : Bounds b ↔ ∀ x ∈ b, ¬ (0x30 ≤ x.toNat ∧ x.toNat ≤ 0x39) := by
  simp only [Bounds, ← isDigitByte_iff, Bool.not_eq_true]

theorem runBlocks_iff (r : List Digit) :
    runBlocks r = true ↔ 13 ≤ r.length ∧ r.length ≤ 19 ∧ mod10Passes r = true := by
  simp [runBlocks, and_assoc]

/-- The guard blocks a frame when a run of it blocks. -/
theorem guardPasses_eq_false_iff (f : Bytes) :
    guardPasses f = false ↔ ∃ r ∈ runsFrom [] (scannedBytes f), runBlocks r = true := by
  have filled : ∀ r, runBlocks r = true → (!r.isEmpty) = true := by
    intro r blocks
    cases r with
    | nil => simp [runBlocks] at blocks
    | cons d ds => rfl
  unfold guardPasses runs
  rw [Bool.not_eq_false', List.any_eq_true]
  constructor
  · rintro ⟨r, held, blocks⟩
    exact ⟨r, (List.mem_filter.mp held).1, blocks⟩
  · rintro ⟨r, held, blocks⟩
    exact ⟨r, List.mem_filter.mpr ⟨held, filled r blocks⟩, blocks⟩

end Sys2Proof.Machine
end

section
/-! R161, R162: the number guard. -/

open Sys2Proof Sys2Proof.Machine

/-- Settles O58: the runs that the scan reads are the maximal ones. -/
theorem guardBlocksExactlyPassingRuns : Obligations.GuardBlocksExactlyPassingRuns := by
  intro f
  have scanned : scannedBytes f = f.drop (if fieldNat f 12 2 = 0x8100 then 18 else 14) := by
    unfold scannedBytes headerLength isTagged
    simp
  rw [guardPasses_eq_false_iff, scanned]
  simp only [mem_runsFrom, List.reverse_nil, List.nil_append, ← exists_or, ← or_and_right, leads_or_follows_iff]
  constructor
  · rintro ⟨r, ⟨run, ⟨pre, post, parts, digits, starts, ends⟩, rfl⟩, blocks⟩
    obtain ⟨low, high, passes⟩ := (runBlocks_iff _).mp blocks
    rw [List.length_map] at low high
    exact ⟨pre, run, post, parts, low, high, fun b held => (isDigitByte_iff b).mp (digits b held),
      (bounds_iff _).mp starts, (bounds_iff _).mp ends, passes⟩
  · rintro ⟨pre, run, post, parts, low, high, digits, starts, ends, passes⟩
    refine ⟨run.map digitOf, ⟨run, ⟨pre, post, parts, fun b held => (isDigitByte_iff b).mpr (digits b held),
      (bounds_iff _).mpr starts, (bounds_iff _).mpr ends⟩, rfl⟩, (runBlocks_iff _).mpr ?_⟩
    rw [List.length_map]
    exact ⟨low, high, passes⟩
end

section
/-! SUPPORT. Ones' complement sums and built datagrams (R149 to R151). -/

namespace Sys2Proof.Machine

/-! ## Ones' complement sums (R149) -/

/-- The end-around carry keeps a total modulo FFFFh, and keeps it from 0. -/
theorem foldCarry_spec (fuel t : Nat) (enough : t ≤ 65535 * fuel) :
    foldCarry fuel t ≤ 65535 ∧ foldCarry fuel t % 65535 = t % 65535 ∧ (t ≠ 0 → foldCarry fuel t ≠ 0) := by
  induction fuel generalizing t with
  | zero =>
    have none : t = 0 := by omega
    subst none
    exact ⟨Nat.zero_le _, rfl, id⟩
  | succ fuel ih =>
    rw [foldCarry]
    by_cases carries : t > 0xFFFF
    · obtain ⟨low, same, filled⟩ := ih (t % 65536 + t / 65536) (by omega)
      rw [if_pos carries]
      exact ⟨low, by omega, fun _ => filled (by omega)⟩
    · rw [if_neg carries]
      exact ⟨by omega, rfl, id⟩

/-- Words of 16 bits. -/
def Words (ws : List Nat) : Prop := ∀ w ∈ ws, w ≤ 65535

theorem Words.sum_le {ws : List Nat} (h : Words ws) : ws.sum ≤ 65535 * ws.length := by
  have bound := List.sum_le_card_nsmul ws 65535 h
  rwa [smul_eq_mul, Nat.mul_comm] at bound

theorem onesSum_spec {ws : List Nat} (h : Words ws) :
    onesSum ws ≤ 65535 ∧ onesSum ws % 65535 = ws.sum % 65535 ∧ (ws.sum ≠ 0 → onesSum ws ≠ 0) :=
  foldCarry_spec _ _ (by have := h.sum_le; omega)

/-- Words whose total is a multiple of FFFFh, and not 0, sum to FFFFh. -/
theorem onesSum_eq_ones {ws : List Nat} (h : Words ws) (whole : ws.sum % 65535 = 0) (filled : ws.sum ≠ 0) :
    onesSum ws = 0xFFFF := by
  obtain ⟨low, same, nonzero⟩ := onesSum_spec h
  have := nonzero filled
  omega

theorem checksum_le (ws : List Nat) : checksum ws ≤ 65535 := Nat.sub_le _ _

/-- A total joined by its checksum is a multiple of FFFFh. -/
theorem checksum_completes {ws : List Nat} (h : Words ws) : (ws.sum + checksum ws) % 65535 = 0 := by
  obtain ⟨low, same, _⟩ := onesSum_spec h
  unfold checksum
  omega

theorem words_words (bs : Bytes) : Words (words bs) := by
  match bs with
  | [] => nofun
  | [a] =>
    intro w held
    have := a.isLt
    rw [words, List.mem_singleton] at held
    omega
  | a :: b :: rest =>
    intro w held
    have := a.isLt
    have := b.isLt
    rcases List.mem_cons.mp held with rfl | later
    · omega
    · exact words_words rest w later

theorem words_append {a : Bytes} (even : a.length % 2 = 0) (b : Bytes) : words (a ++ b) = words a ++ words b := by
  match a, even with
  | [], _ => rfl
  | x :: y :: rest, even => exact congrArg (_ :: ·) (words_append (by simpa [Nat.add_assoc] using even) b)

theorem words_beBytes_two {n : Nat} (small : n ≤ 65535) (b : Bytes) : words (beBytes 2 n ++ b) = n :: words b := by
  simp only [beBytes, List.cons_append, List.nil_append, words, BitVec.toNat_ofNat, List.cons.injEq, and_true]
  omega

/-- A 16-bit field at an even offset counts as its value. -/
theorem sum_words_field {a : Bytes} (even : a.length % 2 = 0) {n : Nat} (small : n ≤ 65535) (b : Bytes) :
    (words (a ++ (beBytes 2 n ++ b))).sum = (words (a ++ (beBytes 2 0 ++ b))).sum + n := by
  rw [words_append even, words_append even, words_beBytes_two small, words_beBytes_two (by omega)]
  simp only [List.sum_append, List.sum_cons]
  omega

/-! ## The headers' checksums (R150, R151) -/

section
variable (h : UdpHeaders) (m : Bytes)

/-- The IPv4 header before its checksum. -/
def ipv4Head (h : UdpHeaders) (udpLen : Nat) : Bytes :=
  [0x45, 0] ++ beBytes 2 (20 + udpLen) ++ beBytes 2 h.ident.toNat ++ [0, 0, 64, 17]

theorem ipv4Header_eq (udpLen check : Nat) :
    ipv4Header h udpLen check =
      ipv4Head h udpLen ++ (beBytes 2 check ++ (beBytes 4 h.srcIp.toNat ++ beBytes 4 h.dstIp.toNat)) := by
  simp only [ipv4Header, ipv4Head, List.append_assoc]

theorem ipv4Header_sums (udpLen : Nat) :
    onesSum (words (ipv4Header h udpLen (checksum (words (ipv4Header h udpLen 0))))) = 0xFFFF := by
  have field := sum_words_field (a := ipv4Head h udpLen) (by simp [ipv4Head])
    (checksum_le (words (ipv4Header h udpLen 0))) (beBytes 4 h.srcIp.toNat ++ beBytes 4 h.dstIp.toNat)
  rw [← ipv4Header_eq, ← ipv4Header_eq] at field
  have first : 0x4500 ≤ (words (ipv4Header h udpLen 0)).sum := by
    simp only [ipv4Header, List.cons_append, words, List.sum_cons]
    exact Nat.le_add_right _ _
  refine onesSum_eq_ones (words_words _) ?_ (by omega)
  rw [field]
  exact checksum_completes (words_words _)

/-- The UDP header before its checksum. -/
def udpHead (h : UdpHeaders) (m : Bytes) : Bytes :=
  beBytes 2 h.srcPort.toNat ++ beBytes 2 h.dstPort.toNat ++ beBytes 2 (8 + m.length)

theorem udpDatagram_eq (check : Nat) : udpDatagram h check m = udpHead h m ++ (beBytes 2 check ++ m) := by
  simp only [udpDatagram, udpHead, List.append_assoc]

theorem udpCheck_le : udpCheck h m ≤ 65535 := by
  unfold udpCheck
  dsimp only
  split
  · exact le_rfl
  · exact checksum_le _

theorem udpCheck_ne_zero : udpCheck h m ≠ 0 := by
  unfold udpCheck
  dsimp only
  split
  · decide
  next nonzero => exact nonzero

theorem udpDatagram_sums (short : m.length ≤ 1472) :
    onesSum (pseudoWords h.srcIp h.dstIp (8 + m.length) ++ words (udpDatagram h (udpCheck h m) m)) = 0xFFFF := by
  have pseudo : Words (pseudoWords h.srcIp h.dstIp (8 + m.length)) := by
    refine List.forall_mem_append.mpr ⟨words_words _, ?_⟩
    simp only [List.forall_mem_cons, List.not_mem_nil, false_implies, implies_true, and_true]
    omega
  have seventeen : 17 ≤ (pseudoWords h.srcIp h.dstIp (8 + m.length)).sum := by
    simp only [pseudoWords, List.sum_append, List.sum_cons]
    omega
  have field := sum_words_field (a := udpHead h m) (by simp [udpHead]) (udpCheck_le h m) m
  rw [← udpDatagram_eq, ← udpDatagram_eq] at field
  have completes := checksum_completes (ws := pseudoWords h.srcIp h.dstIp (8 + m.length) ++ words (udpDatagram h 0 m))
    (List.forall_mem_append.mpr ⟨pseudo, words_words _⟩)
  rw [List.sum_append] at completes
  refine onesSum_eq_ones (List.forall_mem_append.mpr ⟨pseudo, words_words _⟩) ?_ (by rw [List.sum_append]; omega)
  rw [List.sum_append, field]
  unfold udpCheck
  dsimp only
  split <;> omega

/-! ## What is read from a built datagram (R150, R151) -/

/-- The tag of a built frame. -/
def tagFields : TagControl → List (Nat × Nat)
  | none => []
  | some t => [(2, 0x8100), (2, t.toNat)]

/-- The Ethernet header of a built frame, field by field. -/
def etherFields (h : UdpHeaders) : List (Nat × Nat) :=
  [(6, h.dstMac.toNat), (6, h.srcMac.toNat)] ++ tagFields h.tagControl ++ [(2, 0x0800)]

/-- The headers of a built datagram, field by field. -/
def datagramFields (h : UdpHeaders) (m : Bytes) : List (Nat × Nat) :=
  [(1, 0x45), (1, 0), (2, 20 + (8 + m.length)), (2, h.ident.toNat), (2, 0), (1, 64), (1, 17),
    (2, checksum (words (ipv4Header h (8 + m.length) 0))), (4, h.srcIp.toNat), (4, h.dstIp.toNat),
    (2, h.srcPort.toNat), (2, h.dstPort.toNat), (2, 8 + m.length), (2, udpCheck h m)]

theorem etherHeader_eq (dst src : Mac) (tag : TagControl) (type : Nat) :
    etherHeader dst src tag type = packed ([(6, dst.toNat), (6, src.toNat)] ++ tagFields tag ++ [(2, type)]) := by
  cases tag <;> simp [etherHeader, packed, tagFields]

theorem ipv4Header_eq_packed (udpLen check : Nat) :
    ipv4Header h udpLen check =
      packed [(1, 0x45), (1, 0), (2, 20 + udpLen), (2, h.ident.toNat), (2, 0), (1, 64), (1, 17), (2, check),
        (4, h.srcIp.toNat), (4, h.dstIp.toNat)] := by
  have start : ([0x45, 0] : Bytes) = beBytes 1 0x45 ++ beBytes 1 0 := by decide
  have middle : ([0, 0, 64, 17] : Bytes) = beBytes 2 0 ++ (beBytes 1 64 ++ beBytes 1 17) := by decide
  rw [ipv4Header, start, middle]
  simp only [packed, List.flatMap_cons, List.flatMap_nil, List.append_assoc, List.append_nil]

theorem buildUdp_eq_packed : buildUdp h m = packed (etherFields h ++ datagramFields h m) ++ m := by
  unfold buildUdp etherFields datagramFields udpDatagram
  dsimp only
  rw [etherHeader_eq, ipv4Header_eq_packed h _ (checksum _)]
  simp only [packed, List.flatMap_append, List.flatMap_cons, List.flatMap_nil, List.append_assoc, List.append_nil]

theorem layout_append (o : Nat) (fs gs : List (Nat × Nat)) :
    layout o (fs ++ gs) = layout o fs ++ layout (o + (fs.map Prod.fst).sum) gs := by
  induction fs generalizing o with
  | nil => rfl
  | cons f fs ih =>
    obtain ⟨w, n⟩ := f
    rw [List.cons_append, layout, layout, ih, List.map_cons, List.sum_cons, ← Nat.add_assoc]
    rfl

theorem mem_layout_shift {k o w n : Nat} {fs : List (Nat × Nat)} (p : Nat) (held : (o, w, n) ∈ layout p fs) :
    (k + o, w, n) ∈ layout (k + p) fs := by
  induction fs generalizing p with
  | nil => cases held
  | cons f fs ih =>
    obtain ⟨v, x⟩ := f
    rcases List.mem_cons.mp held with same | later
    · cases same
      exact List.mem_cons_self
    · exact List.mem_cons_of_mem _ (Nat.add_assoc k p v ▸ ih (p + v) later)

theorem fieldNat_of_layout {o w n : Nat} {fs : List (Nat × Nat)} (post : Bytes) (held : (o, w, n) ∈ layout 0 fs) :
    fieldNat (packed fs ++ post) o w = n % 256 ^ w :=
  fieldNat_packed (pre := []) (o := 0) rfl fs post (o, w, n) held

/-- A value as wide as its field is read back whole. -/
theorem ofNat_field {n w : Nat} (x : BitVec n) (fits : 2 ^ n = 256 ^ w) : BitVec.ofNat n (x.toNat % 256 ^ w) = x := by
  rw [← fits, Nat.mod_eq_of_lt x.isLt, BitVec.ofNat_toNat, BitVec.setWidth_eq]

/-- Every field of the Ethernet header is read back at its offset. -/
theorem etherField_buildUdp {o w n : Nat} (held : (o, w, n) ∈ layout 0 (etherFields h)) :
    fieldNat (buildUdp h m) o w = n % 256 ^ w := by
  rw [buildUdp_eq_packed]
  refine fieldNat_of_layout m ?_
  rw [layout_append]
  exact List.mem_append_left _ held

theorem isTagged_buildUdp : isTagged (buildUdp h m) = h.tagControl.isSome := by
  cases tag : h.tagControl with
  | none =>
    have type := etherField_buildUdp h m (o := 12) (w := 2) (n := 0x0800) (by simp [etherFields, tag, tagFields, layout])
    rw [isTagged, type]
    rfl
  | some t =>
    have type := etherField_buildUdp h m (o := 12) (w := 2) (n := 0x8100) (by simp [etherFields, tag, tagFields, layout])
    rw [isTagged, type]
    rfl

theorem headerLength_buildUdp : headerLength (buildUdp h m) = ((etherFields h).map Prod.fst).sum := by
  rw [headerLength, isTagged_buildUdp, etherFields]
  cases h.tagControl <;> rfl

/-- Every field of the datagram's headers is read back at its offset. -/
theorem ipField_buildUdp {o w n : Nat} (held : (o, w, n) ∈ layout 0 (datagramFields h m)) :
    ipField (buildUdp h m) o w = n % 256 ^ w := by
  have shifted := mem_layout_shift (k := ((etherFields h).map Prod.fst).sum) 0 held
  rw [ipField, headerLength_buildUdp, buildUdp_eq_packed]
  refine fieldNat_of_layout m ?_
  rw [layout_append, Nat.zero_add]
  exact List.mem_append_right _ shifted

theorem buildUdp_length : (buildUdp h m).length = headerLength (buildUdp h m) + (28 + m.length) := by
  rw [headerLength_buildUdp, buildUdp_eq_packed, List.length_append, packed_length, List.map_append, List.sum_append]
  simp [datagramFields, Nat.add_assoc]

theorem etherHeader_length : (etherHeader h.dstMac h.srcMac h.tagControl 0x0800).length = headerLength (buildUdp h m) := by
  rw [etherHeader_eq, packed_length, headerLength_buildUdp, etherFields]

theorem ipv4Header_length (udpLen check : Nat) : (ipv4Header h udpLen check).length = 20 := by
  simp [ipv4Header]

theorem slice_ipv4Header : slice (buildUdp h m) (headerLength (buildUdp h m)) 20 =
    ipv4Header h (8 + m.length) (checksum (words (ipv4Header h (8 + m.length) 0))) := by
  have ether := etherHeader_length h m
  generalize headerLength (buildUdp h m) = n at ether ⊢
  unfold buildUdp
  dsimp only
  rw [List.append_assoc, slice_append_right _ (by omega), ether, Nat.sub_self,
    slice_append_left (by rw [ipv4Header_length]), slice, List.drop_zero, List.take_of_length_le (by rw [ipv4Header_length])]

/-- The bytes from the UDP header on. -/
theorem slice_udpDatagram {o w : Nat} (whole : o + w = 8 + m.length) :
    slice (buildUdp h m) (headerLength (buildUdp h m) + (20 + o)) w = (udpDatagram h (udpCheck h m) m).drop o := by
  have ether := etherHeader_length h m
  generalize headerLength (buildUdp h m) = n at ether ⊢
  unfold buildUdp
  dsimp only
  rw [slice_append_right _ (by rw [List.length_append, ipv4Header_length]; omega), List.length_append, ipv4Header_length, ether,
    show n + (20 + o) - (n + 20) = o by omega, slice, List.take_of_length_le]
  rw [List.length_drop]
  simp [udpDatagram]
  omega

theorem udpPayload_buildUdp (short : m.length ≤ 1472) : udpPayload (buildUdp h m) = m := by
  have length := ipField_buildUdp h m (o := 24) (w := 2) (n := 8 + m.length) (by simp [datagramFields, layout])
  rw [Nat.mod_eq_of_lt (by omega)] at length
  rw [udpPayload, udpLength, length, slice_udpDatagram h m (o := 8) (w := 8 + m.length - 8) (by omega), udpDatagram]
  rw [List.drop_left' (by simp)]

theorem tagControlOf_buildUdp : tagControlOf (buildUdp h m) = h.tagControl := by
  rw [tagControlOf, isTagged_buildUdp]
  cases tag : h.tagControl with
  | none => rfl
  | some t =>
    have control := etherField_buildUdp h m (o := 14) (w := 2) (n := t.toNat) (by simp [etherFields, tag, tagFields, layout])
    rw [control]
    exact congrArg some (ofNat_field t rfl)

theorem etherType_buildUdp : etherType (buildUdp h m) = 0x0800 := by
  rw [etherType, headerLength, isTagged_buildUdp]
  cases tag : h.tagControl with
  | none => exact etherField_buildUdp h m (n := 0x0800) (by simp [etherFields, tag, tagFields, layout])
  | some t => exact etherField_buildUdp h m (n := 0x0800) (by simp [etherFields, tag, tagFields, layout])

end

end Sys2Proof.Machine
end

section
/-! R10, R11, R149 to R151: built datagrams. -/

open Sys2Proof Sys2Proof.Machine

/-- Settles O59: each field is read back at its offset, and both checksums complete their sums. -/
theorem builtDatagramsPassTheAcceptanceChecks : Obligations.BuiltDatagramsPassTheAcceptanceChecks := by
  intro h m short f
  have read {o w n : Nat} (held : (o, w, n) ∈ layout 0 (datagramFields h m)) : ipField f o w = n % 256 ^ w :=
    ipField_buildUdp h m held
  have version : ipField f 0 1 = 0x45 := read (n := 0x45) (by simp [datagramFields, layout])
  have total : totalLength f = 20 + (8 + m.length) :=
    (read (o := 2) (w := 2) (n := 20 + (8 + m.length)) (by simp [datagramFields, layout])).trans (Nat.mod_eq_of_lt (by omega))
  have fragment : ipField f 6 2 = 0 := read (n := 0) (by simp [datagramFields, layout])
  have protocol : ipProtocol f = 17 := read (n := 17) (by simp [datagramFields, layout])
  have length : udpLength f = 8 + m.length :=
    (read (o := 24) (w := 2) (n := 8 + m.length) (by simp [datagramFields, layout])).trans (Nat.mod_eq_of_lt (by omega))
  have check : ipField f 26 2 = udpCheck h m :=
    (read (o := 26) (w := 2) (n := udpCheck h m) (by simp [datagramFields, layout])).trans
      (Nat.mod_eq_of_lt (by have := udpCheck_le h m; omega))
  have source : ipSource f = h.srcIp := by
    rw [ipSource, read (n := h.srcIp.toNat) (by simp [datagramFields, layout])]
    exact ofNat_field h.srcIp rfl
  have destination : ipDestination f = h.dstIp := by
    rw [ipDestination, read (n := h.dstIp.toNat) (by simp [datagramFields, layout])]
    exact ofNat_field h.dstIp rfl
  have ipv4 : ipv4Accepts f = true := by
    have agrees : lengthAgrees f = true := by
      have whole := buildUdp_length h m
      change f.length = headerLength f + (28 + m.length) at whole
      simp only [lengthAgrees, total, whole, Bool.or_eq_true, Bool.and_eq_true, decide_eq_true_eq, beq_iff_eq]
      exact .inl ⟨by omega, by omega⟩
    have sums : onesSum (words (slice f (headerLength f) 20)) = 0xFFFF := by
      rw [slice_ipv4Header h m]
      exact ipv4Header_sums h _
    simp [ipv4Accepts, version, fragment, sums, agrees]
  have udp : udpAccepts f = true := by
    have datagram : slice f (headerLength f + 20) (8 + m.length) = udpDatagram h (udpCheck h m) m :=
      slice_udpDatagram h m (o := 0) (by omega)
    have sums := udpDatagram_sums h m short
    rw [udpAccepts, total, length, check, source, destination, datagram, sums]
    simp
    omega
  refine ⟨?_, ?_, ?_, etherType_buildUdp h m, tagControlOf_buildUdp h m, protocol, source, destination, ?_, ?_,
    udpPayload_buildUdp h m short, check ▸ udpCheck_ne_zero h m⟩
  · simp [acceptsFrame, ipv4, udp]
  · rw [etherDestination, etherField_buildUdp h m (n := h.dstMac.toNat) (by simp [etherFields, layout])]
    exact ofNat_field h.dstMac rfl
  · rw [etherSource, etherField_buildUdp h m (n := h.srcMac.toNat) (by simp [etherFields, layout])]
    exact ofNat_field h.srcMac rfl
  · rw [udpSource, read (n := h.srcPort.toNat) (by simp [datagramFields, layout])]
    exact ofNat_field h.srcPort rfl
  · rw [udpDestination, read (n := h.dstPort.toNat) (by simp [datagramFields, layout])]
    exact ofNat_field h.dstPort rfl
end

section
/-! SUPPORT. The bodies of settings, rules and locators field by field (Tables 11-7 and 11-8). -/

namespace Sys2Proof.Machine

/-! ## Fields of a packed body -/

section
variable {fs : List (Nat × Nat)} {o w n : Nat}

theorem fieldNat_packed_whole (held : (o, w, n) ∈ layout 0 fs) : fieldNat (packed fs) o w = n % 256 ^ w := by
  have read := fieldNat_of_layout [] held
  rwa [List.append_nil] at read

theorem byteAt_packed (held : (o, 1, n) ∈ layout 0 fs) : byteAt (packed fs) o = BitVec.ofNat 8 n := by
  have read := fieldNat_packed_whole held
  rw [fieldNat_byte] at read
  exact BitVec.eq_of_toNat_eq (by simpa using read)

end

/-- A flag byte is read back. -/
theorem flagOf_ofNat (v : Bool) : flagOf (BitVec.ofNat 8 (if v then 1 else 0)) = some v := by
  cases v <;> rfl

theorem indexOf_ofNat {n : Nat} (k : Fin n) (small : n ≤ 256) : indexOf n (BitVec.ofNat 8 k.val) = some k := by
  refine indexOf_of_toNat_eq ?_
  rw [BitVec.toNat_ofNat]
  exact Nat.mod_eq_of_lt (k.isLt.trans_le small)

/-! ## Settings (R181) -/

/-- The settings body, field by field. -/
def settingsFields (x : Settings) : List (Nat × Nat) :=
  [(4, x.serviceAddress.toNat), (2, x.servicePort.toNat), (4, x.lineAddress.toNat), (2, x.replyPort.toNat),
    (2, x.managementPort.toNat), (2, x.noticePort.toNat), (1, x.noticeDestination.elim 255 (·.val)), (2, x.tillVlan),
    (2, x.lineVlan), (1, x.bridgeMode.code.toNat), (2, x.warnMargin), (1, x.localFloor)]

theorem settingsBytes_eq (x : Settings) : settingsBytes x = packed (settingsFields x) := by
  have destination : optionByte x.noticeDestination = BitVec.ofNat 8 (x.noticeDestination.elim 255 (·.val)) := by
    cases x.noticeDestination <;> rfl
  simp only [settingsBytes, settingsFields, destination, packed, List.flatMap_cons, List.flatMap_nil, beBytes_one,
    BitVec.ofNat_toNat, BitVec.setWidth_eq, List.append_assoc, List.append_nil]

theorem parseSettings_settingsBytes (x : Settings) (till : x.tillVlan ≤ 4094) (line : x.lineVlan ≤ 4094)
    (margin : x.warnMargin ≤ 65535) (floor : x.localFloor ≤ 128) : parseSettings (settingsBytes x) = some x := by
  rw [settingsBytes_eq]
  have field {o w n : Nat} (held : (o, w, n) ∈ layout 0 (settingsFields x)) :
      fieldNat (packed (settingsFields x)) o w = n % 256 ^ w := fieldNat_packed_whole held
  have serviceAddress := field (o := 0) (w := 4) (n := x.serviceAddress.toNat) (by simp [settingsFields, layout])
  have servicePort := field (o := 4) (w := 2) (n := x.servicePort.toNat) (by simp [settingsFields, layout])
  have lineAddress := field (o := 6) (w := 4) (n := x.lineAddress.toNat) (by simp [settingsFields, layout])
  have replyPort := field (o := 10) (w := 2) (n := x.replyPort.toNat) (by simp [settingsFields, layout])
  have managementPort := field (o := 12) (w := 2) (n := x.managementPort.toNat) (by simp [settingsFields, layout])
  have noticePort := field (o := 14) (w := 2) (n := x.noticePort.toNat) (by simp [settingsFields, layout])
  have tillVlan := field (o := 17) (w := 2) (n := x.tillVlan) (by simp [settingsFields, layout])
  have lineVlan := field (o := 19) (w := 2) (n := x.lineVlan) (by simp [settingsFields, layout])
  have warnMargin := field (o := 22) (w := 2) (n := x.warnMargin) (by simp [settingsFields, layout])
  have localFloor := field (o := 24) (w := 1) (n := x.localFloor) (by simp [settingsFields, layout])
  have destination : byteAt (packed (settingsFields x)) 16 = _ :=
    byteAt_packed (n := x.noticeDestination.elim 255 (·.val)) (by simp [settingsFields, layout])
  have mode : byteAt (packed (settingsFields x)) 21 = _ :=
    byteAt_packed (n := x.bridgeMode.code.toNat) (by simp [settingsFields, layout])
  have flag : flagOf (byteAt (packed (settingsFields x)) 21) = some (x.bridgeMode == .guarded) := by
    rw [mode]
    cases x.bridgeMode <;> rfl
  have named : indexOf 4 (byteAt (packed (settingsFields x)) 16) = x.noticeDestination := by
    rw [destination]
    cases x.noticeDestination with
    | none => rfl
    | some k => exact indexOf_ofNat k (by decide)
  have known : x.noticeDestination.isSome = true ∨ byteAt (packed (settingsFields x)) 16 = 0xFF := by
    rw [destination]
    cases x.noticeDestination with
    | none => exact .inr rfl
    | some k => exact .inl rfl
  have bridge : (if (x.bridgeMode == .guarded) = true then BridgeMode.guarded else .closed) = x.bridgeMode := by
    cases x.bridgeMode <;> rfl
  unfold parseSettings
  dsimp only
  rw [flag]
  dsimp only
  rw [named, bridge, serviceAddress, servicePort, lineAddress, replyPort, managementPort, noticePort, tillVlan, lineVlan,
    warnMargin, localFloor, ofNat_field _ rfl, ofNat_field _ rfl, ofNat_field _ rfl, ofNat_field _ rfl, ofNat_field _ rfl,
    ofNat_field _ rfl, Nat.mod_eq_of_lt (a := x.tillVlan) (by omega), Nat.mod_eq_of_lt (a := x.lineVlan) (by omega),
    Nat.mod_eq_of_lt (a := x.warnMargin) (by omega), Nat.mod_eq_of_lt (a := x.localFloor) (by omega),
    Nat.min_eq_left (show x.localFloor ≤ Config.floorMax from floor)]
  exact if_pos ⟨till, line, known⟩

/-! ## Rules (R39, R40) -/

theorem parseProbes_flatMap (ps : List Probe) (small : ∀ p ∈ ps, p.offset ≤ 1023) :
    parseProbes (ps.flatMap probeBytes) = ps := by
  induction ps with
  | nil => rfl
  | cons p ps ih =>
    have offset := small p List.mem_cons_self
    rw [List.flatMap_cons, probeBytes]
    simp only [beBytes, List.cons_append, List.nil_append, parseProbes,
      ih fun q held => small q (List.mem_cons_of_mem _ held)]
    have parts : (BitVec.ofNat 8 (p.offset / 256 ^ 1)).toNat * 256 + (BitVec.ofNat 8 (p.offset / 256 ^ 0)).toNat =
        p.offset := by
      simp only [BitVec.toNat_ofNat]
      omega
    rw [parts]

theorem probes_length (ps : List Probe) : (ps.flatMap probeBytes).length = 4 * ps.length := by
  simp [probeBytes, List.length_flatMap, Nat.mul_comm]

theorem parseRule_ruleBytes (i : Fin 16) (r : Rule) (count : r.probes.length ≤ 8)
    (small : ∀ p ∈ r.probes, p.offset ≤ 1023) : parseRule (ruleBytes i r) = some r := by
  have valid : flagOf (byteAt (ruleBytes i r) 1) = some r.valid := by
    change flagOf (if r.valid then 1 else 0) = _
    cases r.valid <;> rfl
  have locator : indexOf 8 (byteAt (ruleBytes i r) 2) = some r.locator := indexOf_ofNat r.locator (by decide)
  have route : indexOf 4 (byteAt (ruleBytes i r) 3) = some r.route := indexOf_ofNat r.route (by decide)
  have probes : parseProbes ((ruleBytes i r).drop 5) = r.probes := parseProbes_flatMap r.probes small
  have four : byteAt (ruleBytes i r) 4 = BitVec.ofNat 8 r.probes.length := rfl
  have few : fieldNat (ruleBytes i r) 4 1 ≤ 8 := by
    rw [fieldNat_byte, four, BitVec.toNat_ofNat]
    omega
  unfold parseRule
  dsimp only
  rw [valid, locator, route, probes]
  exact if_pos ⟨few, List.all_eq_true.mpr fun p held => decide_eq_true (small p held)⟩

theorem bodyForm_ruleBytes (i : Fin 16) (r : Rule) (count : r.probes.length ≤ 8) :
    bodyForm 7 (ruleBytes i r) = some true := by
  have four : byteAt (ruleBytes i r) 4 = BitVec.ofNat 8 r.probes.length := rfl
  have length : (ruleBytes i r).length = 5 + 4 * r.probes.length := by
    rw [ruleBytes, List.length_append, probes_length]
    rfl
  simp [bodyForm, fieldNat_byte, four, length]
  omega

/-! ## Locators (R41, R42) -/

/-- The locator body, field by field; an absent part's fields are 0. -/
def locatorFields (i : Fin 8) (l : Locator) : List (Nat × Nat) :=
  [(1, i.val), (1, if l.valid then 1 else 0), (2, l.seqOffset), (1, l.seqWidth),
    (1, if l.indicator.isSome then 1 else 0), (2, l.indicator.elim 0 (·.offset)), (1, l.indicator.elim 0 (·.bit.val)),
    (1, if l.indicator.elim false (·.invert) then 1 else 0), (2, l.panLengthOffset), (2, l.panOffset),
    (1, l.encoding.code.toNat), (1, if l.companion.isSome then 1 else 0), (2, l.companion.elim 0 (·.lengthOffset)),
    (2, l.companion.elim 0 (·.dataOffset)), (1, l.fill.toNat)]

theorem flagByte_eq (v : Bool) : (if v then 1 else 0 : Byte) = BitVec.ofNat 8 (if v then 1 else 0) := by
  cases v <;> rfl

theorem locatorBytes_eq (i : Fin 8) (l : Locator) : locatorBytes i l = packed (locatorFields i l) := by
  have indicator : (match l.indicator with
      | none => List.replicate 5 0
      | some d => [(1 : Byte)] ++ beBytes 2 d.offset ++ [BitVec.ofNat 8 d.bit.val, if d.invert then 1 else 0]) =
      packed [(1, if l.indicator.isSome then 1 else 0), (2, l.indicator.elim 0 (·.offset)),
        (1, l.indicator.elim 0 (·.bit.val)), (1, if l.indicator.elim false (·.invert) then 1 else 0)] := by
    cases l.indicator with
    | none => rfl
    | some d =>
      simp only [packed, List.flatMap_cons, List.flatMap_nil, beBytes_one, flagByte_eq, List.append_nil, Option.elim,
        List.append_assoc]
      rfl
  have companion : (match l.companion with
      | none => List.replicate 5 0
      | some c => [(1 : Byte)] ++ beBytes 2 c.lengthOffset ++ beBytes 2 c.dataOffset) =
      packed [(1, if l.companion.isSome then 1 else 0), (2, l.companion.elim 0 (·.lengthOffset)),
        (2, l.companion.elim 0 (·.dataOffset))] := by
    cases l.companion with
    | none => rfl
    | some d =>
      simp only [packed, List.flatMap_cons, List.flatMap_nil, beBytes_one, List.append_nil, Option.elim, List.append_assoc]
      rfl
  unfold locatorBytes
  refine (congrArg₂ (fun x y : Bytes => [BitVec.ofNat 8 i.val, if l.valid then 1 else 0] ++ beBytes 2 l.seqOffset ++
    [BitVec.ofNat 8 l.seqWidth] ++ x ++ beBytes 2 l.panLengthOffset ++ beBytes 2 l.panOffset ++ [l.encoding.code] ++ y ++
    [l.fill]) indicator companion).trans ?_
  simp only [locatorFields, packed, List.flatMap_cons, List.flatMap_nil, beBytes_one, flagByte_eq, BitVec.ofNat_toNat,
    BitVec.setWidth_eq, List.append_assoc, List.append_nil, List.cons_append, List.nil_append]

/-- The offsets of a locator's parts within their range (R41). -/
structure Locator.InRange (l : Locator) : Prop where
  width : l.seqWidth = 1 ∨ l.seqWidth = 2 ∨ l.seqWidth = 4
  sequence : l.seqOffset ≤ 1023
  panLength : l.panLengthOffset ≤ 1023
  pan : l.panOffset ≤ 1023
  indicator : ∀ d ∈ l.indicator, d.offset ≤ 1023
  companion : ∀ k ∈ l.companion, k.lengthOffset ≤ 1023 ∧ k.dataOffset ≤ 1023

section
variable (i : Fin 8) {l : Locator}

theorem locatorField {o w n : Nat} (held : (o, w, n) ∈ layout 0 (locatorFields i l)) (small : n < 256 ^ w) :
    fieldNat (locatorBytes i l) o w = n := by
  rw [locatorBytes_eq, fieldNat_packed_whole held, Nat.mod_eq_of_lt small]

theorem locatorByte {o n : Nat} (held : (o, 1, n) ∈ layout 0 (locatorFields i l)) :
    byteAt (locatorBytes i l) o = BitVec.ofNat 8 n := by
  rw [locatorBytes_eq]
  exact byteAt_packed held

theorem parseIndicator_locatorBytes (range : l.InRange) : parseIndicator (locatorBytes i l) = some l.indicator := by
  have present : byteAt (locatorBytes i l) 5 = _ :=
    locatorByte i (n := if l.indicator.isSome then 1 else 0) (by simp [locatorFields, layout])
  unfold parseIndicator
  rw [present, flagOf_ofNat]
  cases indicator : l.indicator with
  | none => rfl
  | some d =>
    have small := range.indicator d indicator
    have offset := locatorField i (l := l) (o := 6) (w := 2) (n := d.offset)
      (by simp [locatorFields, layout, indicator]) (by omega)
    have bit := locatorByte i (l := l) (o := 8) (n := d.bit.val) (by simp [locatorFields, layout, indicator])
    have invert := locatorByte i (l := l) (o := 9) (n := if d.invert then 1 else 0)
      (by simp [locatorFields, layout, indicator])
    have flag : (BitVec.ofNat 8 (if d.invert then 1 else 0) != 0) = d.invert := by cases d.invert <;> rfl
    simp only [Option.isSome_some, bit, indexOf_ofNat d.bit (by decide), offset, invert, flag]
    exact if_pos small

theorem parseCompanion_locatorBytes (range : l.InRange) : parseCompanion (locatorBytes i l) = some l.companion := by
  have present : byteAt (locatorBytes i l) 15 = _ :=
    locatorByte i (n := if l.companion.isSome then 1 else 0) (by simp [locatorFields, layout])
  unfold parseCompanion
  rw [present, flagOf_ofNat]
  cases companion : l.companion with
  | none => rfl
  | some k =>
    obtain ⟨low, small⟩ := range.companion k companion
    have length := locatorField i (l := l) (o := 16) (w := 2) (n := k.lengthOffset)
      (by simp [locatorFields, layout, companion]) (by omega)
    have data := locatorField i (l := l) (o := 18) (w := 2) (n := k.dataOffset)
      (by simp [locatorFields, layout, companion]) (by omega)
    simp only [Option.isSome_some, length, data]
    exact if_pos ⟨low, small⟩

theorem parseLocator_locatorBytes (range : l.InRange) : parseLocator (locatorBytes i l) = some l := by
  obtain ⟨width, sequence, panLength, pan, _, _⟩ := id range
  have valid : byteAt (locatorBytes i l) 1 = _ :=
    locatorByte i (n := if l.valid then 1 else 0) (by simp [locatorFields, layout])
  have encoding : byteAt (locatorBytes i l) 14 = _ :=
    locatorByte i (n := l.encoding.code.toNat) (by simp [locatorFields, layout])
  have encoded : flagOf (BitVec.ofNat 8 l.encoding.code.toNat) = some (l.encoding == .packed) := by
    cases l.encoding <;> rfl
  have decoded : (if (l.encoding == .packed) = true then Encoding.packed else .ascii) = l.encoding := by
    cases l.encoding <;> rfl
  have fill : byteAt (locatorBytes i l) 20 = _ :=
    locatorByte i (n := l.fill.toNat) (by simp [locatorFields, layout])
  have seqOffset := locatorField i (l := l) (o := 2) (w := 2) (n := l.seqOffset) (by simp [locatorFields, layout]) (by omega)
  have seqWidth := locatorField i (l := l) (o := 4) (w := 1) (n := l.seqWidth) (by simp [locatorFields, layout]) (by omega)
  have panLengthOffset := locatorField i (l := l) (o := 10) (w := 2) (n := l.panLengthOffset)
    (by simp [locatorFields, layout]) (by omega)
  have panOffset := locatorField i (l := l) (o := 12) (w := 2) (n := l.panOffset) (by simp [locatorFields, layout])
    (by omega)
  unfold parseLocator
  dsimp only
  rw [valid, flagOf_ofNat, encoding, encoded, parseIndicator_locatorBytes i range, parseCompanion_locatorBytes i range]
  dsimp only
  rw [decoded, fill, seqOffset, seqWidth, panLengthOffset, panOffset, BitVec.ofNat_toNat, BitVec.setWidth_eq]
  exact if_pos ⟨width, sequence, panLength, pan⟩

end

end Sys2Proof.Machine
end

section
/-! R39 to R42, R181: bodies read back. -/

open Sys2Proof Sys2Proof.Machine

/-- Settles O60: each body is its fields in a row, and each parser reads every field at its offset. -/
theorem writtenBodiesReadBack : Obligations.WrittenBodiesReadBack := by
  refine ⟨fun x till line margin floor => ⟨parseSettings_settingsBytes x till line margin floor, ?_⟩,
    fun i r count small => ⟨parseRule_ruleBytes i r count small, bodyForm_ruleBytes i r count⟩,
    fun i l width sequence panLength pan indicator companion =>
      ⟨parseLocator_locatorBytes i ⟨width, sequence, panLength, pan, indicator, companion⟩, ?_⟩⟩
  · rw [settingsBytes_eq, packed_length]
    rfl
  · rw [locatorBytes_eq, packed_length]
    rfl
end

section
/-! SUPPORT. Notices asked for one by one (R194 to R196). -/

namespace Sys2Proof.Machine

variable {s a b t : State} {d : Destination}

/-! ## The levels of an event's end (R190) -/

theorem State.evalLevels_levelLaw (s : State) : s.evalLevels.LevelLaw := fun e level =>
  (show s.evalLevels.condition e = s.condition e by apply State.condition_congr <;> rfl).trans (s.evalLevels_level e level)

theorem status_ext {v w : Vector Bool 18} (same : ∀ e : Fin 18, v[e] = w[e]) : v = w :=
  Vector.ext fun n below => same ⟨n, below⟩

/-- Every source from the eleventh on is a level source. -/
theorem exists_levelSource : ∀ n : Fin 18, 11 ≤ n.val → ∃ e ∈ levelSources, e.idx = n := by
  decide

/-- Levels that stand as their conditions are evaluated to themselves. -/
theorem State.evalLevels_of_levelLaw (law : s.LevelLaw) : s.evalLevels = s := by
  have same : s.evalLevels.status = s.status := by
    refine status_ext fun n => ?_
    by_cases edge : n.val < 11
    · exact s.evalLevels_edge n edge
    · obtain ⟨e, level, rfl⟩ := exists_levelSource n (by omega)
      exact Option.some.inj ((s.evalLevels_level e level).symm.trans (law e level))
  rw [State.evalLevels_eq, State.levelled, same]

theorem NoticeStep.levelLaw (h : NoticeStep a t) (law : a.LevelLaw) : t.LevelLaw := by
  intro e level
  have kept : t.status[e.idx] = a.status[e.idx] := by
    refine h.unlatched e.idx ?_ ?_ <;>
      simp only [levelSources, List.mem_cons, List.not_mem_nil, or_false] at level <;>
      rcases level with rfl | rfl | rfl | rfl | rfl | rfl | rfl <;> decide
  exact (h.condition e).trans ((law e level).trans (congrArg some kept.symm))

/-! ## What makes the levels differ (R192 to R194) -/

theorem State.levelsDiffer_eq_true_iff :
    s.levelsDiffer t = true ↔ s.attention ≠ t.attention ∨ s.slotLevels ≠ t.slotLevels := by
  simp [State.levelsDiffer]

theorem State.levelsDiffer_eq_false_iff :
    s.levelsDiffer t = false ↔ s.attention = t.attention ∧ s.slotLevels = t.slotLevels := by
  simp [State.levelsDiffer]

theorem State.levelsDiffer_of_status (status : t.status = s.status) (enables : t.enables = s.enables)
    (map : t.eventMap = s.eventMap) : s.levelsDiffer t = false := by
  have active : t.active = s.active := funext fun n => by rw [State.active, State.active, status, enables]
  have level : t.slotLevel = s.slotLevel := funext fun n => by rw [State.slotLevel, State.slotLevel, map, active]
  refine State.levelsDiffer_eq_false_iff.mpr ⟨?_, ?_⟩
  · rw [State.attention, State.attention, active]
  · rw [State.slotLevels, State.slotLevels, level]

theorem NoticeStep.levelsDiffer_of_status (h : NoticeStep a t) (status : t.status = a.status) :
    a.levelsDiffer t = false :=
  State.levelsDiffer_of_status status (by rw [h.others]) (by rw [h.others])

/-- A step from a state with both latches set moves no status. -/
theorem NoticeStep.status_of_saturated (h : NoticeStep a t) (blocked : a.status[EventSource.guardBlock.idx] = true)
    (saturated : a.status[EventSource.counterSaturated.idx] = true) : t.status = a.status := by
  refine status_ext fun e => ?_
  by_cases block : e = EventSource.guardBlock.idx
  · subst block
    exact (h.latched _ blocked).trans blocked.symm
  · by_cases saturation : e = EventSource.counterSaturated.idx
    · subst saturation
      exact (h.latched _ saturated).trans saturated.symm
    · exact h.unlatched e block saturation

/-- From a state with GUARD_BLOCK set the levels can differ by COUNTER_SATURATED alone. -/
theorem NoticeStep.saturated_of_differ (h : NoticeStep a t) (blocked : a.status[EventSource.guardBlock.idx] = true)
    (differ : a.levelsDiffer t = true) : t.status[EventSource.counterSaturated.idx] = true := by
  by_contra unset
  have status : t.status = a.status := by
    refine status_ext fun e => ?_
    by_cases block : e = EventSource.guardBlock.idx
    · subst block
      exact (h.latched _ blocked).trans blocked.symm
    · by_cases saturation : e = EventSource.counterSaturated.idx
      · subst saturation
        have before : a.status[EventSource.counterSaturated.idx] ≠ true := fun set => unset (h.latched _ set)
        exact (Bool.eq_false_of_not_eq_true unset).trans (Bool.eq_false_of_not_eq_true before).symm
      · exact h.unlatched e block saturation
  rw [h.levelsDiffer_of_status status] at differ
  cases differ

/-! ## Asks (R195) -/

/-- Two asks from a state with GUARD_BLOCK set are as many as it takes. -/
theorem askNotices_two (blocked : b.status[EventSource.guardBlock.idx] = true) : askNotices 2 b = askNotices 3 b := by
  have first := b.askNotice_notice
  have second := b.askNotice.askNotice_notice
  by_cases differ : b.levelsDiffer b.askNotice = true
  · have settled : b.askNotice.levelsDiffer b.askNotice.askNotice = false :=
      second.levelsDiffer_of_status
        (second.status_of_saturated (first.latched _ blocked) (first.saturated_of_differ blocked differ))
    simp [askNotices, differ, settled]
  · simp [askNotices, differ]

theorem askNotices_of_same (n : Nat) (same : s.levelsDiffer s.askNotice = false) : askNotices (n + 1) s = s.askNotice := by
  rw [askNotices, same]
  rfl

theorem conclude_asks (before : State) {start : Bool}
    (asked : start = true ∨ before.noticeTarget = none ∨ before.attention ≠ s.evalLevels.attention ∨
      before.slotLevels ≠ s.evalLevels.slotLevels) : conclude start before s = askNotices 3 s.evalLevels := by
  unfold conclude
  refine if_pos ?_
  rw [Bool.or_eq_true, Bool.or_eq_true, Option.isNone_iff_eq_none, State.levelsDiffer_eq_true_iff, or_assoc]
  exact asked

/-- An ask whose block changes the levels is followed by another event's end (R195). -/
theorem askNotices_of_differ (law : a.LevelLaw) (asked : a.askNotice = b)
    (blocked : b.status[EventSource.guardBlock.idx] = true) (differ : a.levelsDiffer b = true) :
    askNotices 3 a = conclude true b b := by
  have stands : b.evalLevels = b := State.evalLevels_of_levelLaw (asked ▸ a.askNotice_notice.levelLaw law)
  rw [conclude_asks b (.inl rfl), stands, ← askNotices_two blocked, askNotices, asked, if_pos differ]

/-! ## The ask's cases (R195, R158, R163) -/

theorem State.askNotice_waiting {w : WaitingNotice} (target : s.noticeTarget = some d) (waiting : s.noticeWaiting = some w) :
    s.askNotice = s.rewriteNotice d w := by
  rw [State.askNotice, target, waiting]

/-- The new notice in the waiting buffer. -/
def State.withNotice (s : State) (d : Destination) : State :=
  { s with noticeWaiting := some { ident := s.ident, frame := s.noticeFrame d s.ident }, ident := s.ident + 1 }

theorem State.askNotice_new (target : s.noticeTarget = some d) (empty : s.noticeWaiting = none) :
    s.askNotice = ((s.withNotice d).offerOwn .L .notice).1 := by
  rw [State.askNotice, target, empty]
  rfl

theorem State.withNotice_down (empty : s.noticeWaiting = none) (down : s.portL.link = .down) :
    ((s.withNotice d).offerOwn .L .notice).1 = { s with ident := s.ident + 1 } := by
  unfold State.offerOwn
  rw [if_pos (show ((s.withNotice d).port .L).link = .down from down)]
  exact congrArg (fun w => { s with noticeWaiting := w, ident := s.ident + 1 }) empty.symm

theorem State.withNotice_up (up : s.portL.link = .up) (passes : guardPasses (s.noticeFrame d s.ident) = true) :
    ((s.withNotice d).offerOwn .L .notice).1 =
      ((s.withNotice d).setPort .L { s.portL with ownQueue := s.portL.ownQueue ++ [.notice] }).arbiter .L := by
  have held : guardPasses ((s.withNotice d).heldFrame .L .notice) = true := passes
  have link : ((s.withNotice d).port .L).link = .up := up
  unfold State.offerOwn
  rw [if_neg (by rw [link]; decide), if_neg (by rw [held]; simp)]
  rfl

/-- A block moves GUARD_BLOCK and the counts alone. -/
theorem State.guardBlocked_noticeWaiting (s : State) (w : Option WaitingNotice) :
    { s.guardBlocked with noticeWaiting := w } = ({ s with noticeWaiting := w } : State).guardBlocked := by
  unfold State.guardBlocked
  rw [State.bump_eq, State.bump_eq]
  rfl

theorem State.withNotice_blocked (empty : s.noticeWaiting = none) (up : s.portL.link = .up)
    (blocks : guardPasses (s.noticeFrame d s.ident) = false) :
    ((s.withNotice d).offerOwn .L .notice).1 = ({ s with ident := s.ident + 1 } : State).guardBlocked := by
  have held : guardPasses ((s.withNotice d).heldFrame .L .notice) = false := blocks
  have link : ((s.withNotice d).port .L).link = .up := up
  unfold State.offerOwn
  rw [if_neg (by rw [link]; decide), if_pos ⟨rfl, held⟩]
  refine (State.guardBlocked_noticeWaiting _ _).trans (congrArg State.guardBlocked ?_)
  exact congrArg (fun w => { s with noticeWaiting := w, ident := s.ident + 1 }) empty.symm

theorem State.withNotice_busy (up : s.portL.link = .up) (passes : guardPasses (s.noticeFrame d s.ident) = true)
    (busy : s.portL.sending.isSome = true) :
    ((s.withNotice d).offerOwn .L .notice).1 =
      (s.withNotice d).setPort .L { s.portL with ownQueue := s.portL.ownQueue ++ [.notice] } := by
  rw [State.withNotice_up up passes, State.arbiter_rests (.inr (.inl (by exact busy)))]

theorem State.withNotice_idle (empty : s.noticeWaiting = none) (up : s.portL.link = .up)
    (passes : guardPasses (s.noticeFrame d s.ident) = true) (idle : s.portL.sending = none)
    (queue : s.portL.ownQueue = []) (bridge : s.portL.bridge = []) :
    ((s.withNotice d).offerOwn .L .notice).1 =
      { s with
        noticeSending := some (s.noticeFrame d s.ident), ident := s.ident + 1
        portL :=
          { s.portL with
            sending := some
              { kind := .own .notice, frame := s.noticeFrame d s.ident, wire := wireImage (s.noticeFrame d s.ident) }
            lastServed := .own } } := by
  rw [State.withNotice_up up passes, queue]
  refine (State.arbiter_takesOwn (e := .notice) (rest := []) (by exact up) (by exact idle) (by rfl)
    (.inl (by exact bridge))).trans ?_
  exact congrArg₂ (fun (own : List OwnEntry) w =>
    { s with
      noticeSending := some (s.noticeFrame d s.ident), ident := s.ident + 1, noticeWaiting := w
      portL :=
        { s.portL with
          sending := some
            { kind := .own .notice, frame := s.noticeFrame d s.ident, wire := wireImage (s.noticeFrame d s.ident) }
          lastServed := .own, ownQueue := own } }) queue.symm empty.symm

theorem State.rewriteNotice_passes {w : WaitingNotice} (passes : guardPasses (s.noticeFrame d w.ident) = true) :
    s.rewriteNotice d w = { s with noticeWaiting := some { w with frame := s.noticeFrame d w.ident } } := by
  rw [State.rewriteNotice, passes]
  rfl

theorem State.rewriteNotice_blocked {w : WaitingNotice} (blocks : guardPasses (s.noticeFrame d w.ident) = false) :
    s.rewriteNotice d w =
      ({ s with
          noticeWaiting := none
          portL := { s.portL with ownQueue := s.portL.ownQueue.filter (· ≠ .notice) } } : State).guardBlocked := by
  rw [State.rewriteNotice, blocks]
  unfold State.guardBlocked
  rw [State.bump_eq, State.bump_eq]
  rfl

theorem State.guardBlocked_status (s : State) : s.guardBlocked.status[EventSource.guardBlock.idx] = true := by
  obtain ⟨st, shape, set | set⟩ := s.guardBlocked_shape <;> rw [shape, set] <;> simp [EventSource.idx]

end Sys2Proof.Machine
end

section
/-! R158, R163, R194 to R196: notices. -/

open Sys2Proof Sys2Proof.Machine

/-- Settles O29: an event's end asks at most three times; each ask is one of its cases, and after a block that changes the
levels the rest of the asks are those of another event's end. -/
theorem noticesAreAskedAndBuilt : Obligations.NoticesAreAskedAndBuilt := by
  refine ⟨fun before s possible attention levels => ?_, fun start before s d target asked => ?_⟩
  · unfold conclude
    refine if_neg ?_
    rw [State.levelsDiffer_eq_false_iff.mpr ⟨attention, levels⟩]
    simpa using possible
  · intro e payload frame
    have law : e.LevelLaw := s.evalLevels_levelLaw
    have target_e : e.noticeTarget = some d := target
    rw [conclude_asks before asked]
    change (∀ w, e.noticeWaiting = some w → guardPasses (e.noticeFrame d w.ident) = true →
      askNotices 3 e = { e with noticeWaiting := some { w with frame := e.noticeFrame d w.ident } }) ∧ _
    have once {u : State} (result : e.askNotice = u) (status : u.status = e.status) : askNotices 3 e = u := by
      have same : e.levelsDiffer e.askNotice = false :=
        e.askNotice_notice.levelsDiffer_of_status (result ▸ status)
      rw [askNotices_of_same 2 same, result]
    have block {u : State} (result : e.askNotice = u.guardBlocked) :
        (u.guardBlocked.attention = e.attention → u.guardBlocked.slotLevels = e.slotLevels →
          askNotices 3 e = u.guardBlocked) ∧
        (u.guardBlocked.attention ≠ e.attention ∨ u.guardBlocked.slotLevels ≠ e.slotLevels →
          askNotices 3 e = conclude true u.guardBlocked u.guardBlocked) := by
      refine ⟨fun attention levels => ?_, fun differ => ?_⟩
      · have same : e.levelsDiffer e.askNotice = false := by
          rw [result]
          exact State.levelsDiffer_eq_false_iff.mpr ⟨attention.symm, levels.symm⟩
        rw [askNotices_of_same 2 same, result]
      · exact askNotices_of_differ law result u.guardBlocked_status
          (State.levelsDiffer_eq_true_iff.mpr (differ.imp Ne.symm Ne.symm))
    refine ⟨fun w waiting passes => ?_, fun none down => ?_, fun none up passes busy => ?_,
      fun none up passes idle queue bridge => ?_, fun none up blocks => ?_, fun w waiting blocks => ?_⟩
    · exact once ((State.askNotice_waiting target_e waiting).trans (State.rewriteNotice_passes passes)) rfl
    · exact once ((State.askNotice_new target_e none).trans (State.withNotice_down none down)) rfl
    · exact once ((State.askNotice_new target_e none).trans (State.withNotice_busy up passes busy)) rfl
    · exact once ((State.askNotice_new target_e none).trans (State.withNotice_idle none up passes idle queue bridge)) rfl
    · exact block ((State.askNotice_new target_e none).trans (State.withNotice_blocked none up blocks))
    · exact block ((State.askNotice_waiting target_e waiting).trans (State.rewriteNotice_blocked blocks))
end

section
/-! SUPPORT. What a port that goes down discards (R6). -/

namespace Sys2Proof.Machine

variable {s a t : State} {p : PortId} {e : OwnEntry}

/-! ## One entry released (R6, R163) -/

theorem State.releaseEntry_others (s : State) (p : PortId) (other : e ≠ .response) :
    s.releaseEntry p e =
      { s.setPort p ((s.releaseEntry p e).port p) with
        frames := (s.releaseEntry p e).frames, freeSlots := (s.releaseEntry p e).freeSlots
        standIns := (s.releaseEntry p e).standIns, noticeWaiting := (s.releaseEntry p e).noticeWaiting } := by
  cases e with
  | response => exact absurd rfl other
  | _ => cases p <;> rfl

theorem State.releaseEntry_port (s : State) (p : PortId) (e : OwnEntry) :
    (s.releaseEntry p e).port p = { s.port p with arp := ((s.releaseEntry p e).port p).arp } := by
  cases e <;> cases p <;> rfl

theorem State.releaseEntry_arp (s : State) (p : PortId) (e : OwnEntry) (b : Fin 2) :
    ((s.releaseEntry p e).port p).arp[b] = if .arp b = e then none else (s.port p).arp[b] := by
  cases e with
  | arp d =>
    have port : (s.releaseEntry p (.arp d)).port p = { s.port p with arp := (s.port p).arp.set d none } :=
      s.setPort_port p _
    rw [port, getElem_set_fin]
    simp only [OwnEntry.arp.injEq, eq_comm]
  | _ => cases p <;> exact (if_neg nofun).symm

theorem State.releaseEntry_standIns (s : State) (p : PortId) (e : OwnEntry) (n : Fin 16) :
    (s.releaseEntry p e).standIns[n] = if .standIn n = e then none else s.standIns[n] := by
  cases e with
  | standIn m =>
    change (s.standIns.set m none)[n] = _
    rw [getElem_set_fin]
    simp only [OwnEntry.standIn.injEq, eq_comm]
  | _ => cases p <;> exact (if_neg nofun).symm

theorem State.releaseEntry_frames (s : State) (p : PortId) (e : OwnEntry) (k : Fin 64) :
    (s.releaseEntry p e).frames[k] = if k ∈ e.slot.toList then [] else s.frames[k] := by
  cases e with
  | wrapped i | forwarded i =>
    change (s.frames.set i [])[k] = _
    rw [getElem_set_fin]
    simp only [OwnEntry.slot, Option.toList_some, List.mem_singleton, eq_comm]
  | _ => cases p <;> exact (if_neg (by simp [OwnEntry.slot])).symm

theorem State.releaseEntry_freeSlots (s : State) (p : PortId) (e : OwnEntry) :
    (s.releaseEntry p e).freeSlots = s.freeSlots ++ e.slot.toList := by
  cases e with
  | wrapped i | forwarded i => rfl
  | _ => cases p <;> exact (List.append_nil _).symm

theorem State.releaseEntry_noticeWaiting (s : State) (p : PortId) (e : OwnEntry) :
    (s.releaseEntry p e).noticeWaiting = if .notice = e then none else s.noticeWaiting := by
  cases e with
  | notice => exact (if_pos rfl).symm
  | _ => cases p <;> exact (if_neg nofun).symm

/-! ## Entries, notices and bridged frames discarded together -/

/-- `a` is `s` after the entries `q` of port `p` were released, `n` bridged frames dropped and, when `sent`, the notice
being sent abandoned. -/
structure Discards (p : PortId) (q : List OwnEntry) (n : Nat) (sent : Bool) (s a : State) : Prop where
  others : a =
    { s.setPort p (a.port p) with
      frames := a.frames, freeSlots := a.freeSlots, standIns := a.standIns
      noticeWaiting := a.noticeWaiting, noticeSending := a.noticeSending
      counters := a.counters, status := a.status }
  port : a.port p = { s.port p with arp := (a.port p).arp }
  arp : ∀ b : Fin 2, (a.port p).arp[b] = if .arp b ∈ q then none else (s.port p).arp[b]
  standIns : ∀ m : Fin 16, a.standIns[m] = if .standIn m ∈ q then none else s.standIns[m]
  frames : ∀ k : Fin 64, a.frames[k] = if k ∈ q.filterMap OwnEntry.slot then [] else s.frames[k]
  freeSlots : a.freeSlots = s.freeSlots ++ q.filterMap OwnEntry.slot
  waiting : a.noticeWaiting = if .notice ∈ q then none else s.noticeWaiting
  sending : a.noticeSending = if sent then none else s.noticeSending
  counters : ∀ m : Fin 33, m ≠ Counter.bridgeDrops.idx → a.counters[m] = s.counters[m]
  drops : s.counters[Counter.bridgeDrops.idx] ≤ 4294967295 →
    a.counters[Counter.bridgeDrops.idx] = min 4294967295 (s.counters[Counter.bridgeDrops.idx] + n)
  status : ∀ m : Fin 18, m ≠ EventSource.counterSaturated.idx → a.status[m] = s.status[m]

theorem Discards.refl (p : PortId) (s : State) : Discards p [] 0 false s s where
  others := by cases p <;> rfl
  port := rfl
  arp _ := rfl
  standIns _ := rfl
  frames _ := rfl
  freeSlots := (List.append_nil _).symm
  waiting := rfl
  sending := rfl
  counters _ _ := rfl
  drops low := (Nat.min_eq_right low).symm
  status _ _ := rfl

theorem ite_mem_append {α β : Type} [DecidableEq α] (x : α) (q r : List α) (y z : β) :
    (if x ∈ r then y else if x ∈ q then y else z) = if x ∈ q ++ r then y else z := by
  by_cases late : x ∈ r <;> by_cases early : x ∈ q <;> simp [late, early]

theorem Discards.trans {q r : List OwnEntry} {n m : Nat} {x y : Bool} (h : Discards p q n x s a)
    (k : Discards p r m y a t) : Discards p (q ++ r) (n + m) (x || y) s t where
  others := k.others.trans (by rw [h.others]; cases p <;> rfl)
  port := k.port.trans (by rw [h.port])
  arp b := by rw [k.arp, h.arp, ite_mem_append]
  standIns b := by rw [k.standIns, h.standIns, ite_mem_append]
  frames b := by rw [k.frames, h.frames, ite_mem_append, List.filterMap_append]
  freeSlots := by rw [k.freeSlots, h.freeSlots, List.filterMap_append, List.append_assoc]
  waiting := by rw [k.waiting, h.waiting, ite_mem_append]
  sending := by rw [k.sending, h.sending]; cases x <;> cases y <;> rfl
  counters b other := (k.counters b other).trans (h.counters b other)
  drops low := by
    have first := h.drops low
    rw [k.drops (by omega), first]
    omega
  status b other := (k.status b other).trans (h.status b other)

theorem Discards.entry (s : State) (p : PortId) (other : e ≠ .response) : Discards p [e] 0 false s (s.releaseEntry p e) where
  others := by
    conv_lhs => rw [s.releaseEntry_others p other]
    cases e with
    | response => exact absurd rfl other
    | _ => cases p <;> rfl
  port := s.releaseEntry_port p e
  arp b := by rw [s.releaseEntry_arp]; simp only [List.mem_singleton]
  standIns b := by rw [s.releaseEntry_standIns]; simp only [List.mem_singleton]
  frames b := by rw [s.releaseEntry_frames]; cases e <;> rfl
  freeSlots := by rw [s.releaseEntry_freeSlots]; cases e <;> rfl
  waiting := by rw [s.releaseEntry_noticeWaiting]; simp only [List.mem_singleton]
  sending := by
    cases e with
    | response => exact absurd rfl other
    | _ => cases p <;> rfl
  counters b _ := by cases e <;> cases p <;> rfl
  drops low := by
    have same : (s.releaseEntry p e).counters = s.counters := by cases e <;> cases p <;> rfl
    rw [same]
    omega
  status b _ := by cases e <;> cases p <;> rfl

theorem Discards.drop (s : State) (p : PortId) : Discards p [] 1 false s (s.bump .bridgeDrops) := by
  rw [State.bump_eq]
  refine
    { others := by cases p <;> rfl, port := by cases p <;> rfl, arp := fun b => by cases p <;> rfl, standIns := fun _ => rfl
      frames := fun _ => rfl, freeSlots := (List.append_nil _).symm, waiting := rfl, sending := rfl
      counters := fun b other => ?_, drops := fun low => ?_, status := fun b other => ?_ }
  · dsimp only
    rw [getElem_set_fin, if_neg (Ne.symm other)]
  · dsimp only
    rw [getElem_set_fin, if_pos rfl, gained]
    change (if s.counters[Counter.bridgeDrops.idx] < 4294967295 then _ else _) = _
    by_cases room : s.counters[Counter.bridgeDrops.idx] < 4294967295
    · rw [if_pos room]
      omega
    · rw [if_neg room]
      omega
  · dsimp only
    split
    · rw [getElem_set_fin, if_neg (Ne.symm other)]
    · rfl

theorem Discards.notice (s : State) (p : PortId) : Discards p [] 0 true s { s with noticeSending := none } where
  others := by cases p <;> rfl
  port := by cases p <;> rfl
  arp _ := by cases p <;> rfl
  standIns _ := rfl
  frames _ := rfl
  freeSlots := (List.append_nil _).symm
  waiting := rfl
  sending := rfl
  counters _ _ := rfl
  drops low := (Nat.min_eq_right low).symm
  status _ _ := rfl

theorem Discards.entries (p : PortId) (q : List OwnEntry) (other : OwnEntry.response ∉ q) (s : State) :
    Discards p q 0 false s (q.foldl (fun st e => st.releaseEntry p e) s) := by
  induction q generalizing s with
  | nil => exact .refl p s
  | cons e q ih =>
    rw [List.mem_cons, not_or] at other
    exact (Discards.entry s p (Ne.symm other.1)).trans (ih other.2 _)

theorem Discards.bridge (p : PortId) (q : List Bytes) (s : State) :
    Discards p [] q.length false s (q.foldl (fun st _ => st.bump .bridgeDrops) s) := by
  induction q generalizing s with
  | nil => exact .refl p s
  | cons f q ih =>
    have both := (Discards.drop s p).trans (ih (s.bump .bridgeDrops))
    rwa [Nat.add_comm] at both

/-- A discard beside the end of a response (R175). -/
theorem Discards.endResponse {q : List OwnEntry} {n : Nat} {x : Bool} (h : Discards p q n x s a) :
    Discards p q n x s.endResponse a.endResponse where
  others := (congrArg State.endResponse h.others).trans (by cases p <;> rfl)
  port := by cases p <;> exact h.port
  arp b := by cases p <;> exact h.arp b
  standIns := h.standIns
  frames := h.frames
  freeSlots := h.freeSlots
  waiting := h.waiting
  sending := h.sending
  counters := h.counters
  drops := h.drops
  status := h.status

/-! ## A link-down report (R6) -/

/-- The bridged frames that a port discards when its link goes down. -/
def PortState.bridged (x : PortState) : Nat :=
  x.bridge.length + if x.sending.map (·.kind) = some .bridged then 1 else 0

/-- The port without its work, DOWN. -/
def State.shut (s : State) (p : PortId) : State :=
  s.setPort p { s.port p with link := .down, sending := none, ownQueue := [], bridge := [] }

/-- The transmission abandoned. -/
def State.abandoned (s : State) (p : PortId) : State :=
  match (s.port p).sending with
  | none => s.shut p
  | some w => (s.shut p).releaseAbandoned p w.kind

theorem State.linkLost_eq (s : State) (p : PortId) :
    s.linkLost p = (s.port p).bridge.foldl (fun st _ => st.bump .bridgeDrops)
      ((s.port p).ownQueue.foldl (fun st e => st.releaseEntry p e) (s.abandoned p)) := rfl

/-- The own-output entry that a port is sending, when it is no notice: a notice being sent has a buffer of its own. -/
def PortState.sent (x : PortState) : List OwnEntry :=
  match x.sending with
  | some { kind := .own e, .. } => if e = .notice then [] else [e]
  | some { kind := .bridged, .. } | none => []

theorem PortState.mem_entries_iff {x : PortState} (other : e ≠ .notice) : e ∈ x.entries ↔ e ∈ x.sent ++ x.ownQueue := by
  unfold PortState.entries PortState.sent
  rw [List.mem_append, List.mem_append, or_comm]
  refine or_congr_left ?_
  rcases sends : x.sending with _ | ⟨kind, frame, wire⟩
  · rfl
  · cases kind with
    | bridged => rfl
    | own held =>
      by_cases notice : held = .notice
      · simp [notice, other]
      · simp [notice]

theorem PortState.slotsHeld_perm (x : PortState) :
    ((x.sent ++ x.ownQueue).filterMap OwnEntry.slot).Perm x.slotsHeld := by
  unfold PortState.sent PortState.slotsHeld
  rw [List.filterMap_append]
  refine List.perm_append_comm.trans (List.Perm.append_left _ (.of_eq ?_))
  rcases sends : x.sending with _ | ⟨kind, frame, wire⟩
  · rfl
  · cases kind with
    | bridged => rfl
    | own e => cases e <;> rfl

/-- Whether the port is sending a notice. -/
def PortState.sendsNotice (x : PortState) : Bool := decide (x.sending.map (·.kind) = some (.own .notice))

/-- The transmission abandoned, of no response. -/
theorem Discards.abandoned (s : State) (p : PortId) (other : OwnEntry.response ∉ (s.port p).sent) :
    Discards p (s.port p).sent (if (s.port p).sending.map (·.kind) = some .bridged then 1 else 0) (s.port p).sendsNotice
      (s.shut p) (s.abandoned p) := by
  unfold State.abandoned PortState.sendsNotice
  unfold PortState.sent at other ⊢
  rcases sends : (s.port p).sending with _ | ⟨kind, frame, wire⟩
  · exact .refl p _
  · cases kind with
    | bridged => exact .drop _ p
    | own e =>
      simp only [sends] at other
      cases e with
      | response => exact absurd (by simp) other
      | notice => exact .notice _ p
      | _ => exact .entry _ p nofun

/-- A port that holds no response. -/
theorem Discards.linkLost (s : State) (p : PortId) (other : OwnEntry.response ∉ (s.port p).entries) :
    Discards p ((s.port p).sent ++ (s.port p).ownQueue) (s.port p).bridged (s.port p).sendsNotice (s.shut p)
      (s.linkLost p) := by
  rw [PortState.mem_entries_iff (e := .response) nofun, List.mem_append, not_or] at other
  have all := ((Discards.abandoned s p other.1).trans (Discards.entries p _ other.2 _)).trans
    (Discards.bridge p (s.port p).bridge _)
  rw [List.append_nil, Bool.or_false, Bool.or_false, Nat.add_zero, Nat.add_comm] at all
  exact all

/-- A port that holds one response: it ends, and the rest is discarded (R175). -/
theorem Discards.linkLost_response (s : State) (p : PortId) (held : OwnEntry.response ∈ (s.port p).entries)
    (one : (s.port p).entries.count .response = 1) :
    ∃ q x, Discards p q (s.port p).bridged x (s.shut p).endResponse (s.linkLost p) := by
  rw [State.linkLost_eq]
  have bridge := Discards.bridge p (s.port p).bridge
  by_cases sends : OwnEntry.response ∈ (s.port p).sent
  · have sending : ∃ frame wire, (s.port p).sending = some { kind := .own .response, frame := frame, wire := wire } := by
      unfold PortState.sent at sends
      split at sends
      next e frame wire sending =>
        split at sends
        · cases sends
        · rw [← List.mem_singleton.mp sends] at sending
          exact ⟨frame, wire, sending⟩
      all_goals cases sends
    obtain ⟨frame, wire, sending⟩ := sending
    have none : OwnEntry.response ∉ (s.port p).ownQueue := by
      unfold PortState.entries at one
      rw [sending, List.count_append] at one
      exact List.count_eq_zero.mp (by simpa using one)
    have first : s.abandoned p = (s.shut p).endResponse := by
      unfold State.abandoned
      rw [sending]
      rfl
    have bridged : (s.port p).bridged = (s.port p).bridge.length := by
      simp [PortState.bridged, sending]
    rw [first, bridged]
    exact ⟨_, _, Nat.zero_add (s.port p).bridge.length ▸
      (Discards.entries p _ none _).trans (bridge _)⟩
  · have queued : OwnEntry.response ∈ (s.port p).ownQueue :=
      (List.mem_append.mp ((PortState.mem_entries_iff (e := .response) nofun).mp held)).resolve_left sends
    obtain ⟨before, after, parts⟩ := List.append_of_mem queued
    have single : (s.port p).ownQueue.count .response ≤ 1 := by
      rw [← one, PortState.entries, List.count_append]
      exact Nat.le_add_right _ _
    rw [parts, List.count_append, List.count_cons_self] at single
    have early : OwnEntry.response ∉ before := List.count_eq_zero.mp (by omega)
    have late : OwnEntry.response ∉ after := List.count_eq_zero.mp (by omega)
    rw [parts, List.foldl_append, List.foldl_cons]
    have start := ((Discards.abandoned s p sends).trans (Discards.entries p before early _)).endResponse
    have all := (start.trans (Discards.entries p after late _)).trans (bridge _)
    rw [Nat.add_zero, Nat.add_comm] at all
    exact ⟨_, _, all⟩

end Sys2Proof.Machine
end

section
/-! SUPPORT. Link reports and completed transmissions as events (R5, R6, R21, R175). -/

namespace Sys2Proof.Machine

variable {s a t : State} {p : PortId} {c : Context}

theorem concludeResponse_of_mgu (same : a.mgu = s.mgu) : concludeResponse s a = conclude false s a := by
  refine if_neg ?_
  unfold State.restartDue
  rw [same]
  cases s.mgu <;> simp

/-- A response that ends takes the restart that its message has left pending (R175, R184). -/
theorem concludeResponse_of_ended (busy : s.mgu ≠ .idle) (context : s.context = some c) (ended : a.mgu = .idle) :
    concludeResponse s a = if c.restartPending = true then conclude true s a.loseWork else conclude false s a := by
  have due : s.restartDue a = c.restartPending := by
    unfold State.restartDue
    rw [bne_iff_ne.mpr busy, context, ended]
    rfl
  rw [concludeResponse, due]

/-- A restart loses the work of a state that differs in its work alone. -/
theorem losesWork_of_same (start : Bool) (before : State) {u a : State} (same : u.loseWork = a.loseWork) :
    LosesWork a (conclude start before u.loseWork) a.portT.link a.portL.link :=
  same ▸ losesWork_of_loseWork start before a

/-- A restart keeps no more of a port than its link. -/
theorem State.loseWork_of_links {x y : PortState} (linkT : x.link = s.portT.link) (linkL : y.link = s.portL.link) :
    ({ s with portT := x, portL := y } : State).loseWork = s.loseWork := by
  change ({ s.loseWork with portT := portAfterStart x.link, portL := portAfterStart y.link } : State) = _
  rw [linkT, linkL]
  rfl

/-- The arbiter moves what a restart loses. -/
theorem State.arbiter_loseWork (s : State) (p : PortId) : (s.arbiter p).loseWork = s.loseWork := by
  obtain ⟨x, w, n, shape, link, _, _⟩ := s.arbiter_shape p
  rw [shape]
  cases p with
  | T => exact State.loseWork_of_links link rfl
  | L => exact State.loseWork_of_links rfl link

end Sys2Proof.Machine
end

section
/-! R5, R6, R21, R175: the ports' commands. -/

open Sys2Proof Sys2Proof.Machine

/-- Settles O30: a link-down report discards the entries, the notice being sent and the bridged frames, each with its own
effect. -/
theorem linkReports : Obligations.LinkReports := by
  intro s p
  refine ⟨fun up => ?_, fun down => ?_, fun down queue bridge => ?_, fun up other => ?_⟩
  · exact if_pos up
  · exact if_pos down
  · have event : exec (.linkUp p) s =
        .next (conclude false s ((s.setPort p { s.port p with link := .up }).arbiter p)) :=
      if_neg (by rw [down]; decide)
    have rests : (s.setPort p { s.port p with link := .up }).arbiter p = s.setPort p { s.port p with link := .up } :=
      State.arbiter_rests (.inr (.inr (by rw [State.setPort_port]; exact ⟨bridge, queue⟩)))
    rw [rests] at event
    exact ⟨_, event, conclude_settles ..⟩
  · have D := Discards.linkLost s p other
    have event : exec (.linkDown p) s = .next (concludeResponse s (s.linkLost p)) := if_neg (by rw [up]; decide)
    have mgu : (s.linkLost p).mgu = s.mgu := by
      rw [D.others]
      cases p <;> rfl
    rw [concludeResponse_of_mgu mgu] at event
    generalize s.linkLost p = a at D event
    have held (k : Fin 64) : k ∈ ((s.port p).sent ++ (s.port p).ownQueue).filterMap OwnEntry.slot ↔ k ∈ (s.port p).slotsHeld :=
      (s.port p).slotsHeld_perm.mem_iff
    have notice : .notice ∈ (s.port p).sent ++ (s.port p).ownQueue ↔ .notice ∈ (s.port p).ownQueue := by
      rw [List.mem_append, or_iff_right]
      unfold PortState.sent
      split
      · split
        · exact List.not_mem_nil
        next other => exact fun held => other (List.mem_singleton.mp held).symm
      all_goals exact List.not_mem_nil
    refine ⟨a, _, event, conclude_settles .., ?_, ?_, fun b => ?_, fun e => ?_, fun k => ?_, ?_, ?_, ?_, fun n kept => ?_,
      fun low => ?_, fun e kept => ?_⟩
    · exact D.others.trans (by cases p <;> rfl)
    · exact D.port.trans (by rw [State.shut, State.setPort_port])
    · rw [D.arp, State.shut, State.setPort_port]
      simp only [PortState.mem_entries_iff (e := .arp b) nofun]
    · rw [D.standIns, State.shut, State.setPort_standIns]
      simp only [PortState.mem_entries_iff (e := .standIn e) nofun]
    · rw [D.frames, State.shut, State.setPort_frames]
      simp only [held]
    · rw [D.freeSlots, State.shut, State.setPort_freeSlots]
      exact (s.port p).slotsHeld_perm.append_left _
    · rw [D.waiting, State.shut, State.setPort_noticeWaiting]
      simp only [notice]
    · rw [D.sending, State.shut, State.setPort_noticeSending, PortState.sendsNotice]
      simp only [decide_eq_true_eq]
    · rw [D.counters n kept, State.shut, State.setPort_counters]
    · have drops := D.drops (by rw [State.shut, State.setPort_counters]; exact low)
      rw [drops, State.shut, State.setPort_counters, PortState.bridged, Nat.add_assoc]
    · rw [D.status e kept, State.shut, State.setPort_status]

/-- Settles O31: a completed transmission releases the buffer of its kind; no message ends. -/
theorem transmissionReleasesItsBuffer : Obligations.TransmissionReleasesItsBuffer := by
  intro s p w sending other idle released
  have event : exec (.transmissionComplete p) s =
      .next (concludeResponse s ((idle.releaseSent p w.kind).arbiter p)) := by
    change execTransmissionComplete p s = _
    unfold execTransmissionComplete
    rw [sending]
  have same : idle.releaseSent p w.kind = released := by
    obtain ⟨kind, frame, wire⟩ := w
    cases kind with
    | bridged => cases p <;> rfl
    | own e =>
      cases e with
      | response => exact absurd rfl other
      | _ => cases p <;> rfl
  have mgu : released.mgu = s.mgu := by
    rw [← same]
    obtain ⟨kind, frame, wire⟩ := w
    cases kind with
    | bridged => exact (congrArg State.mgu (State.bump_eq _ _)).trans (by cases p <;> rfl)
    | own e =>
      cases e with
      | response => exact absurd rfl other
      | notice => exact (congrArg State.mgu (State.bump_eq _ _)).trans (by cases p <;> rfl)
      | _ => cases p <;> rfl
  rw [same, concludeResponse_of_mgu] at event
  · exact ⟨_, event, conclude_settles ..⟩
  · obtain ⟨x, v, n, shape, _⟩ := released.arbiter_shape p
    rw [shape, ← mgu]
    cases p <;> rfl

/-- Settles O32: the response's end and the discards of its port touch different parts of the state, so that one end is left,
and a restart finds nothing of the rest. -/
theorem responseEndsTheMessage : Obligations.ResponseEndsTheMessage := by
  intro s p c answering context
  have committed : (s.context.bind (·.pendingKeys)).getD s.mgmtKeys = c.pendingKeys.getD s.mgmtKeys := by rw [context]; rfl
  refine ⟨fun w sending kind => ?_, fun up held one => ?_⟩
  · let idle := s.setPort p { s.port p with sending := none }
    have event : exec (.transmissionComplete p) s = .next (concludeResponse s (idle.endResponse.arbiter p)) := by
      change execTransmissionComplete p s = _
      unfold execTransmissionComplete
      rw [sending]
      dsimp only
      rw [kind]
      rfl
    have ended : (idle.endResponse.arbiter p).mgu = .idle := by
      obtain ⟨x, v, n, shape, _⟩ := idle.endResponse.arbiter_shape p
      rw [shape]
      cases p <;> rfl
    rw [concludeResponse_of_ended (by rw [answering]; decide) context ended] at event
    refine ⟨_, event, fun staying => ?_, fun pending => ?_⟩
    · rw [if_neg (by rw [staying]; decide), ← committed]
      have ends : idle.endResponse =
          { s.setPort p { s.port p with sending := none } with
            mgmtKeys := (s.context.bind (·.pendingKeys)).getD s.mgmtKeys
            mgu := .idle, message := [], response := [], responseFrame := [], context := none } := by
        cases p <;> rfl
      rw [ends]
      exact conclude_settles ..
    · rw [if_pos pending]
      refine losesWork_of_same true s (a := { s with mgmtKeys := c.pendingKeys.getD s.mgmtKeys }) ?_
      rw [State.arbiter_loseWork, ← committed]
      cases p <;> rfl
  · obtain ⟨q, x, D⟩ := Discards.linkLost_response s p held one
    have event : exec (.linkDown p) s = .next (concludeResponse s (s.linkLost p)) := if_neg (by rw [up]; decide)
    generalize s.linkLost p = a at D event
    have ended : a.mgu = .idle := by
      rw [D.others]
      cases p <;> rfl
    rw [concludeResponse_of_ended (by rw [answering]; decide) context ended] at event
    refine ⟨_, event, fun staying => ?_, fun pending => ?_⟩
    · rw [if_neg (by rw [staying]; decide)]
      have settles := conclude_settles false s a
      have link : ((conclude false s a).port p).link = (a.port p).link := by
        cases p with
        | T => rw [settles.others]; rfl
        | L => exact settles.portL.1
      refine ⟨link.trans ?_, ?_⟩
      · rw [D.port]
        cases p <;> rfl
      · rw [settles.others, D.others, ← committed]
        cases p <;> exact ⟨rfl, rfl, rfl, rfl, rfl, rfl, rfl, rfl, rfl, rfl⟩
    · rw [if_pos pending]
      refine ⟨a.counters, fun k kept => ?_, fun low => ?_, ?_⟩
      · rw [D.counters k kept]
        cases p <;> rfl
      · have shut : (s.shut p).endResponse.counters = s.counters := by cases p <;> rfl
        have drops := D.drops (by rw [shut]; exact low)
        rw [drops, shut, PortState.bridged, Nat.add_assoc]
      · rw [← committed]
        let lost : State :=
          { s with
            mgmtKeys := (s.context.bind (·.pendingKeys)).getD s.mgmtKeys, counters := a.counters
            portT := { s.portT with link := if p = .T then .down else s.portT.link }
            portL := { s.portL with link := if p = .L then .down else s.portL.link } }
        have same : a.loseWork = lost.loseWork := by
          have link : (a.port p).link = .down := by
            rw [D.port]
            cases p <;> rfl
          refine (congrArg State.loseWork D.others).trans ?_
          cases p with
          | T => exact State.loseWork_of_links (s := lost) (x := a.portT) (y := s.portL) link rfl
          | L => exact State.loseWork_of_links (s := lost) (x := s.portT) (y := a.portL) rfl link
        have loses := losesWork_of_same true s same
        exact ⟨loses.settles, loses.banks⟩
end

section
/-! SUPPORT. Where an arriving frame goes (Tables 1-7 and 1-8; R188, last row). -/

namespace Sys2Proof.Machine

variable {s a : State} {p : PortId} {f wire : Bytes}

/-! ## The old management ports (R188, last row) -/

/-- A frame of an origin's port that no port of the part as it stands takes. -/
def State.reaches (s : State) (p : PortId) (o : Origin) (f : Bytes) : Bool :=
  match p, o with
  | .T, .store => s.addressed .T f && !portMatches s.settings.servicePort (udpDestination f)
  | .T, .remote => s.ownAddress .T == 0 && etherDestination f == s.factory.station && etherType f == 0x0800
  | .L, .store => false
  | .L, .remote =>
    s.addressed .L f && !portMatches s.settings.replyPort (udpDestination f) ||
      s.ownAddress .L == 0 && etherDestination f == s.factory.station && etherType f == 0x0800

/-- A datagram that the part accepts and that is not to the management port. -/
structure State.Unmanaged (s : State) (p : PortId) (f : Bytes) : Prop where
  notArp : isArpRequest s.factory.station (s.ownAddress p) f = false
  accepted : acceptsFrame f = true
  udp : ipProtocol f = 17
  notManagement : portMatches s.settings.managementPort (udpDestination f) = false

theorem State.replacedAt_iff :
    s.replacedAt p f = true ↔ s.Unmanaged p f ∧ ∃ o, s.toReplaced o f = true ∧ s.reaches p o f = true := by
  unfold State.replacedAt State.toReplaced State.reaches
  cases s.context with
  | none => simp
  | some c =>
    constructor
    · intro replaced
      simp only [Option.any_some, Bool.and_eq_true, Bool.not_eq_true', beq_iff_eq] at replaced
      obtain ⟨⟨⟨⟨⟨notArp, accepted⟩, udp⟩, notManagement⟩, executing⟩, old, reaches⟩ := replaced
      refine ⟨⟨notArp, accepted, udp, notManagement⟩, c.origin, ?_, ?_⟩
      · simp [executing, old]
      · cases p <;> cases origin : c.origin <;> rw [origin] at reaches <;> exact reaches
    · rintro ⟨⟨notArp, accepted, udp, notManagement⟩, o, old, reaches⟩
      simp only [Option.any_some, Bool.and_eq_true, beq_iff_eq] at old
      obtain ⟨executing, origin, replaced⟩ := old
      subst origin
      simp only [Option.any_some, Bool.and_eq_true, Bool.not_eq_true', beq_iff_eq]
      refine ⟨⟨⟨⟨⟨notArp, accepted⟩, udp⟩, notManagement⟩, executing⟩, replaced, ?_⟩
      cases p <;> cases origin : c.origin <;> rw [origin] at reaches <;> exact reaches

theorem State.addressed_address (h : s.addressed p f = true) : s.ownAddress p ≠ 0 := by
  simp only [State.addressed, Bool.and_eq_true, bne_iff_ne] at h
  exact h.2

theorem State.bootstrap_management (h : s.bootstrap p f = true) :
    portMatches s.settings.managementPort (udpDestination f) = true := by
  simp only [State.bootstrap, Bool.and_eq_true] at h
  exact h.2

/-- A frame for the part under bootstrap, but for its port. -/
theorem State.bootstrapReplaced_iff :
    s.bootstrapReplaced p f = true ↔
      (s.ownAddress p == 0 && etherDestination f == s.factory.station && etherType f == 0x0800) = true ∧
        acceptsFrame f = true ∧ ipProtocol f = 17 ∧ s.toReplaced .remote f = true := by
  simp only [State.bootstrapReplaced, Bool.and_eq_true, beq_iff_eq, and_assoc]

/-! ## Dispatch (R12, R13) -/

/-- A frame addressed to the part goes past the first two rows when the acceptance checks take it. -/
theorem State.arrive_of_accepted (notArp : isArpRequest s.factory.station (s.ownAddress p) f = false)
    (named : s.addressed p f = true ∨ s.bootstrap p f = true) (accepted : acceptsFrame f = true) :
    s.arrive p f = s.deliver p f := by
  rw [State.arrive, notArp, accepted]
  exact if_pos (Bool.or_eq_true_iff.mpr named)

theorem State.arrive_of_other (notArp : isArpRequest s.factory.station (s.ownAddress p) f = false)
    (addressed : s.addressed p f = false) (bootstrap : s.bootstrap p f = false) :
    s.arrive p f = if s.bootstrapReplaced p f then s.bump .mgmtBusy else s.bridgeDecision p f := by
  rw [State.arrive, notArp, addressed, bootstrap]
  rfl

theorem State.unmatched_of_replaced (replaced : s.toReplaced (originOf p false) f = true) :
    s.unmatched p f = s.bump .mgmtBusy := if_pos replaced

theorem State.unmatched_of_current (current : s.toReplaced (originOf p false) f = false) :
    s.unmatched p f = s.dropMalformed := if_neg (by rw [current]; decide)

/-- The port that takes requests on port T, and replies on port L (R9). -/
def State.partPort (s : State) (p : PortId) : UdpPort :=
  match p with
  | .T => s.settings.servicePort
  | .L => s.settings.replyPort

/-- A datagram that matches no port of the part. -/
theorem State.deliver_unmatched (udp : ipProtocol f = 17)
    (notManagement : portMatches s.settings.managementPort (udpDestination f) = false)
    (other : portMatches (s.partPort p) (udpDestination f) = false) : s.deliver p f = s.unmatched p f := by
  unfold State.deliver
  rw [if_neg (not_not.mpr udp), notManagement]
  cases p <;> (dsimp only [State.partPort] at other; simp [other])

/-- R188, last row. -/
theorem State.arrive_of_replaced (replaced : s.replacedAt p f = true) : s.arrive p f = s.bump .mgmtBusy := by
  obtain ⟨unmanaged, o, old, reaches⟩ := State.replacedAt_iff.mp replaced
  have late (address : (s.ownAddress p == 0 && etherDestination f == s.factory.station && etherType f == 0x0800) = true)
      (remote : o = .remote) : s.arrive p f = s.bump .mgmtBusy := by
    subst remote
    have zero : s.ownAddress p = 0 := by simp_all
    have addressed : s.addressed p f = false := Bool.eq_false_iff.mpr fun h => State.addressed_address h zero
    have bootstrap : s.bootstrap p f = false := Bool.eq_false_iff.mpr fun h => by
      cases (State.bootstrap_management h).symm.trans unmanaged.notManagement
    rw [State.arrive_of_other unmanaged.notArp addressed bootstrap]
    exact if_pos (State.bootstrapReplaced_iff.mpr ⟨address, unmanaged.accepted, unmanaged.udp, old⟩)
  have early (addressed : s.addressed p f = true) (origin : o = originOf p false)
      (other : portMatches (s.partPort p) (udpDestination f) = false) : s.arrive p f = s.bump .mgmtBusy := by
    rw [State.arrive_of_accepted unmanaged.notArp (.inl addressed) unmanaged.accepted,
      State.deliver_unmatched unmanaged.udp unmanaged.notManagement other, State.unmatched_of_replaced (origin ▸ old)]
  cases p <;> cases o <;> dsimp only [State.reaches] at reaches
  · exact late reaches rfl
  · simp only [Bool.and_eq_true, Bool.not_eq_true'] at reaches
    exact early reaches.1 rfl reaches.2
  · rcases Bool.or_eq_true_iff.mp reaches with named | address
    · simp only [Bool.and_eq_true, Bool.not_eq_true'] at named
      exact early named.1 rfl named.2
    · exact late address rfl
  · cases reaches

theorem State.MalformedAt.arrive (h : s.MalformedAt p f) : s.arrive p f = s.dropMalformed := by
  obtain ⟨notArp, current, named, fails⟩ := h
  by_cases accepted : acceptsFrame f = true
  · rw [State.arrive_of_accepted notArp named accepted]
    by_cases udp : ipProtocol f = 17
    · obtain ⟨notManagement, other⟩ := (fails.resolve_left (by simp [accepted])).resolve_left (not_not.mpr udp)
      have addressed : s.addressed p f = true := named.resolve_right fun h => by
        rw [State.bootstrap_management h] at notManagement
        cases notManagement
      have settled (unmatched : portMatches (s.partPort p) (udpDestination f) = false) : s.deliver p f = s.dropMalformed := by
        rw [State.deliver_unmatched udp notManagement unmatched]
        refine State.unmatched_of_current (Bool.eq_false_iff.mpr fun old => ?_)
        refine Bool.eq_false_iff.mp current (State.replacedAt_iff.mpr ⟨⟨notArp, accepted, udp, notManagement⟩, _, old, ?_⟩)
        cases p <;> (dsimp only [State.partPort] at unmatched; simp [originOf, State.reaches, addressed, unmatched])
      cases p with
      | T => exact settled other
      | L =>
        by_cases reply : portMatches s.settings.replyPort (udpDestination f) = true
        · have form : replyFormOk (udpPayload f) = false := other.resolve_left (by simp [reply])
          simp [State.deliver, udp, notManagement, reply, State.replyArrive, form]
        · exact settled (Bool.eq_false_of_not_eq_true reply)
    · exact if_pos udp
  · rw [State.arrive, notArp, Bool.eq_false_of_not_eq_true accepted]
    exact if_pos (Bool.or_eq_true_iff.mpr named)

theorem State.BridgedAt.arrive (h : s.BridgedAt p f) : s.arrive p f = s.bridgeDecision p f := by
  obtain ⟨notArp, current, ⟨addressed, bootstrap⟩ | ⟨rfl, addressed, accepted, udp, notManagement, service, vlan⟩⟩ := h
  · rw [State.arrive_of_other notArp addressed bootstrap]
    refine if_neg fun replaced => ?_
    obtain ⟨address, accepted, udp, old⟩ := State.bootstrapReplaced_iff.mp replaced
    have notManagement : portMatches s.settings.managementPort (udpDestination f) = false :=
      Bool.eq_false_iff.mpr fun management => by
        rw [State.bootstrap, udp, management] at bootstrap
        simp_all
    refine Bool.eq_false_iff.mp current (State.replacedAt_iff.mpr ⟨⟨notArp, accepted, udp, notManagement⟩, .remote, old, ?_⟩)
    cases p with
    | T => exact address
    | L => exact Bool.or_eq_true_iff.mpr (.inr address)
  · rw [State.arrive_of_accepted notArp (.inl addressed) accepted]
    simp [State.deliver, udp, notManagement, service, vlan]

/-! ## The arrival as an event -/

/-- An arrival ends with the state that its dispatch gives, the receive buffer empty. -/
theorem exec_arrives {u : State} (arrives : s.Arrives p wire f) (dispatch : (s.setReceive p none).arrive p f = u) :
    ∃ t, exec (.frameReceived p wire) s = .next t ∧ SettlesTo u t :=
  ⟨_, execFrameReceived_arrives s p wire f arrives, dispatch ▸ conclude_settles ..⟩

theorem State.setReceive_malformedAt (h : s.MalformedAt p f) : (s.setReceive p none).MalformedAt p f := by
  cases p <;> exact h

theorem State.setReceive_bridgedAt (h : s.BridgedAt p f) : (s.setReceive p none).BridgedAt p f := by
  cases p <;> exact h

theorem State.setReceive_replacedAt (s : State) (p : PortId) (f : Bytes) :
    (s.setReceive p none).replacedAt p f = s.replacedAt p f := by
  cases p <;> rfl

theorem State.setReceive_other (s : State) (p : PortId) :
    (s.setReceive p none).port (otherPort p) = s.port (otherPort p) := by
  cases p <;> rfl

end Sys2Proof.Machine
end

section
/-! SUPPORT. The bridge decision and ARP answers case by case (R16 to R18). -/

namespace Sys2Proof.Machine

variable {s : State} {p : PortId} {f : Bytes} {b : Fin 2}

theorem State.offerBridge_down (down : (s.port p).link = .down) : s.offerBridge p f = s.bump .bridgeDrops := if_pos down

theorem State.offerBridge_blocked (up : (s.port p).link = .up) (line : p = .L) (blocks : guardPasses f = false) :
    s.offerBridge p f = s.guardBlocked := by
  rw [State.offerBridge, if_neg (by rw [up]; decide), if_pos ⟨line, blocks⟩]

theorem State.offerBridge_full (up : (s.port p).link = .up) (passes : p = .L → guardPasses f = true)
    (full : 32 ≤ (s.port p).bridge.length) : s.offerBridge p f = s.bump .bridgeDrops := by
  rw [State.offerBridge, if_neg (by rw [up]; decide), if_neg (fun h => by simp [passes h.1] at h)]
  exact if_pos full

theorem State.offerBridge_queued (up : (s.port p).link = .up) (passes : p = .L → guardPasses f = true)
    (room : (s.port p).bridge.length < 32) :
    s.offerBridge p f = (s.setPort p { s.port p with bridge := (s.port p).bridge ++ [f] }).arbiter p := by
  rw [State.offerBridge, if_neg (by rw [up]; decide), if_neg (fun h => by simp [passes h.1] at h)]
  exact if_neg (Nat.not_le.mpr room)

/-- The state with the answer in its buffer. -/
def State.withAnswer (s : State) (p : PortId) (b : Fin 2) (answer : Bytes) : State :=
  s.setPort p { s.port p with arp := (s.port p).arp.set b (some answer) }

theorem State.arpArrive_free (free : firstFree (s.port p).arp = some b) :
    s.arpArrive p f =
      ((s.withAnswer p b (arpAnswer s.factory.station (s.ownAddress p) f)).offerOwn p (.arp b)).1 := by
  rw [State.arpArrive, free]
  rfl

theorem State.withAnswer_held (s : State) (p : PortId) (b : Fin 2) (answer : Bytes) :
    (s.withAnswer p b answer).heldFrame p (.arp b) = answer := by
  have port : ((s.withAnswer p b answer).port p).arp = (s.port p).arp.set b (some answer) :=
    congrArg PortState.arp (s.setPort_port p _)
  change (((s.withAnswer p b answer).port p).arp[b]).getD [] = _
  rw [port, getElem_set_fin, if_pos rfl]
  rfl

theorem State.withAnswer_blocked {answer : Bytes} (empty : (s.port p).arp[b] = none) (up : (s.port p).link = .up)
    (line : p = .L) (blocks : guardPasses answer = false) :
    ((s.withAnswer p b answer).offerOwn p (.arp b)).1 = s.guardBlocked := by
  subst line
  have emptied : (s.portL.arp.set b (some answer)).set b none = s.portL.arp := by
    rw [Vector.set_set]
    exact (show s.portL.arp[b] = none from empty) ▸ Vector.set_getElem_self b.isLt
  unfold State.offerOwn
  rw [if_neg (show ¬ ((s.withAnswer .L b answer).port .L).link = .down from fun down => by cases up.symm.trans down),
    if_pos ⟨rfl, by rw [State.withAnswer_held]; exact blocks⟩]
  unfold State.guardBlocked
  rw [State.bump_eq, State.bump_eq]
  change ({ s with
    portL := { s.portL with arp := (s.portL.arp.set b (some answer)).set b none }, status := _, counters := _ } : State) = _
  rw [emptied]
  rfl

theorem State.withAnswer_passes {answer : Bytes} (up : (s.port p).link = .up) (passes : p = .L → guardPasses answer = true) :
    ((s.withAnswer p b answer).offerOwn p (.arp b)).1 =
      (s.setPort p
        { s.port p with
          arp := (s.port p).arp.set b (some answer), ownQueue := (s.port p).ownQueue ++ [.arp b] }).arbiter p := by
  have link : ((s.withAnswer p b answer).port p).link = .up :=
    (congrArg PortState.link (s.setPort_port p _)).trans up
  unfold State.offerOwn
  rw [if_neg (by rw [link]; decide), if_neg (by
    rw [State.withAnswer_held]
    exact fun h => by simp [passes h.1] at h)]
  cases p <;> rfl

end Sys2Proof.Machine
end

section
/-! R3, R10, R12, R13, R16 to R18, R97: the frames that reach no path of the part. -/

open Sys2Proof Sys2Proof.Machine

/-- Settles O33: the dispatch of each kind of frame, then the bridge decision and the ARP answer case by case. -/
theorem framesAreDroppedBridgedOrAnswered : Obligations.FramesAreDroppedBridgedOrAnswered := by
  intro s p wire
  refine ⟨fun up rejected => ?_, fun f arrives => ?_⟩
  · have event : exec (.frameReceived p wire) s = .next (conclude false s (s.bump .portDrops)) := by
      change execFrameReceived p wire s = _
      rw [execFrameReceived, if_neg (by rw [up]; decide), if_neg (by rw [rejected]; decide)]
    exact ⟨_, event, conclude_settles ..⟩
  · intro a q answer
    obtain ⟨up, _⟩ := id arrives
    have link : (a.port p).link = .up := (by cases p <;> rfl : (a.port p).link = (s.port p).link).trans up
    have arp : (a.port p).arp = (s.port p).arp := by cases p <;> rfl
    have other : a.port q = s.port q := s.setReceive_other p
    refine ⟨fun malformed => ?_, fun bridged => ?_, fun request => ⟨fun full => ?_, fun b empty used => ?_⟩⟩
    · exact exec_arrives arrives (State.setReceive_malformedAt malformed).arrive
    · obtain ⟨t, event, settles⟩ := exec_arrives arrives (State.setReceive_bridgedAt bridged).arrive
      have mode : a.settings.bridgeMode = s.settings.bridgeMode := by cases p <;> rfl
      change SettlesTo (a.bridgeDecision p f) t at settles
      have guarded_eq (guarded : s.settings.bridgeMode = .guarded) : a.bridgeDecision p f = a.offerBridge q f := by
        rw [State.bridgeDecision, mode, guarded]
      refine ⟨t, event, fun drops => ?_, fun guarded up => ?_⟩
      · have dropped : a.bridgeDecision p f = a.bump .bridgeDrops := by
          cases open_ : s.settings.bridgeMode with
          | closed => rw [State.bridgeDecision, mode, open_]
          | guarded =>
            have down := drops.resolve_left (by rw [open_]; decide)
            rw [guarded_eq open_, State.offerBridge_down (by rw [other]; exact down)]
        exact dropped ▸ settles
      · rw [guarded_eq guarded] at settles
        have up_a : (a.port q).link = .up := by rw [other]; exact up
        refine ⟨fun line blocks => ?_, fun passes full => ?_, fun passes room => ?_⟩
        · rwa [State.offerBridge_blocked up_a line blocks] at settles
        · rwa [State.offerBridge_full up_a passes (by rw [other]; exact full)] at settles
        · rwa [State.offerBridge_queued up_a passes (by rw [other]; exact room), other] at settles
    · have dispatch : a.arrive p f = a.arpArrive p f :=
        if_pos ((by cases p <;> rfl : isArpRequest a.factory.station (a.ownAddress p) f = _).trans request)
      have dropped : a.arpArrive p f = a := by rw [State.arpArrive, arp, firstFree_of_full full]
      exact exec_arrives arrives (dispatch.trans dropped)
    · have dispatch : a.arrive p f = a.arpArrive p f :=
        if_pos ((by cases p <;> rfl : isArpRequest a.factory.station (a.ownAddress p) f = _).trans request)
      have free : firstFree (a.port p).arp = some b := by
        rw [arp]
        exact firstFree_eq_some_iff.mpr ⟨empty, used⟩
      have made : arpAnswer a.factory.station (a.ownAddress p) f = answer := by cases p <;> rfl
      obtain ⟨t, event, settles⟩ := exec_arrives arrives (dispatch.trans (State.arpArrive_free free))
      rw [made] at settles
      refine ⟨t, event, fun line blocks => ?_, fun passes => ?_⟩
      · rwa [State.withAnswer_blocked (by rw [arp]; exact empty) link line blocks] at settles
      · rw [State.withAnswer_passes link passes] at settles
        have queued : a.setPort p
            { a.port p with
              arp := (a.port p).arp.set b (some answer), ownQueue := (a.port p).ownQueue ++ [.arp b] } =
            s.setPort p
              { s.port p with
                receive := none
                arp := (s.port p).arp.set b (some answer)
                ownQueue := (s.port p).ownQueue ++ [.arp b] } := by
          cases p <;> rfl
        rwa [queued] at settles
end

section
/-! SUPPORT. Admission step by step (R87 to R92). -/

namespace Sys2Proof.Machine

variable {s a : State} {i : Fin 128} {r : Fin 16} {cap : RequestCapture} {c : Capture} {d : Destination} {b : BankId}
  {f wire : Bytes} {m : Nat}

/-! ## The key test (R60) -/

theorem keyTest_of_live {k : KeySlot} (legal : k.Legal) (live : (k.bank b).state = .live)
    (below : (k.bank b).counter < ceiling (k.bank b).ceilingCode) : keyTest k = .ok b := by
  rw [keyTest, legal.live_eq live]
  refine if_neg ?_
  simp only [KeyBank.remaining, live]
  omega

theorem keyTest_of_spent {k : KeySlot} (legal : k.Legal) (live : (k.bank b).state = .live)
    (spent : ceiling (k.bank b).ceilingCode ≤ (k.bank b).counter) : keyTest k = .error .keySpent := by
  rw [keyTest, legal.live_eq live]
  refine if_pos ?_
  simp only [KeyBank.remaining, live]
  omega

theorem keyTest_of_none_live {k : KeySlot} (a : k.a.state ≠ .live) (b : k.b.state ≠ .live) : keyTest k = .error .noKey := by
  rw [keyTest, KeySlot.live_eq_none]
  intro x
  cases x
  · exact a
  · exact b

/-! ## Steps 1 and 2 (R87 to R89) -/

/-- At step 3 the till has no exchange, and the rest of its static fields as before. -/
theorem State.atStep3_till (s : State) (i : Fin 128) :
    (s.atStep3 i).tills[i] = { s.tills[i] with exchange := none } := by
  unfold State.atStep3
  cases held : s.tills[i].exchange with
  | none =>
    dsimp only
    rw [State.bump_tills]
    exact congrArg (fun x => { s.tills[i] with exchange := x }) held
  | some x =>
    dsimp only
    rw [State.bump_tills, State.closeExchange_entry, State.bump_tills]
    rfl

/-- A request that is no duplicate goes on with step 3 from there. -/
theorem State.admission_of_new (named : cap.till = i)
    (fresh : ∀ x, s.tills[i].exchange = some x → cap.seq ≠ some x.seq) :
    ((s.setReceive .T none).bump .requestsRecognised).admission cap f m = (s.atStep3 i).admitNew cap f m := by
  subst named
  have entry : ((s.setReceive .T none).bump .requestsRecognised).tills[cap.till].exchange = s.tills[cap.till].exchange := by
    rw [State.bump_tills]
    rfl
  unfold State.admission State.atStep3
  rw [entry]
  cases held : s.tills[cap.till].exchange with
  | none => rfl
  | some x => exact if_neg (fresh x held)

theorem exec_admission {u : State} (request : s.RequestAt wire f i r cap)
    (fresh : ∀ x, s.tills[i].exchange = some x → cap.seq ≠ some x.seq)
    (admitted : (s.atStep3 i).admitNew cap f (udpPayload f).length = u) :
    ∃ t, exec (.frameReceived .T wire) s = .next t ∧ SettlesTo u t := by
  obtain ⟨named, arrival⟩ := exec_frameReceived_request request
  rwa [State.admission_of_new named fresh, admitted] at arrival

/-! ## Steps 3 to 8 (R90 to R92) -/

/-- A capture is of the till and the source port that it was taken with. -/
theorem captureRequest_accepted {rule : Rule} {l : Locator} {payload : Bytes} {port : UdpPort}
    (captured : captureRequest i rule l payload port = .accepted c) : c.till = i ∧ c.sourcePort = port := by
  unfold captureRequest at captured
  split at captured <;> cases captured
  exact ⟨rfl, rfl⟩

theorem State.admitNew_noRoute (route : a.destinations[c.route] = none) :
    a.admitNew (.accepted c) f m = a.standIn c.till .noRoute (some c.seq) c.sourcePort := by
  rw [State.admitNew, route]

theorem State.admitNew_oversize (route : a.destinations[c.route] = some d) (large : 1472 < m + 24 + plainLength c) :
    a.admitNew (.accepted c) f m = a.standIn c.till .oversize (some c.seq) c.sourcePort := by
  rw [State.admitNew, route]
  exact if_pos large

/-- Step 5, the key test, is reached. -/
theorem State.admitNew_fits (route : a.destinations[c.route] = some d) (fits : m + 24 + plainLength c ≤ 1472) :
    a.admitNew (.accepted c) f m =
      match keyTest a.slots[(a.tills[c.till]).slot] with
      | .error r => a.standIn c.till r (some c.seq) c.sourcePort
      | .ok b =>
        match a.freeSlots with
        | [] => a.standIn c.till .busy (some c.seq) c.sourcePort
        | k :: rest =>
          if a.occupied < Config.queueEntries then a.openExchange c d b k rest f
          else a.standIn c.till .busy (some c.seq) c.sourcePort := by
  unfold State.admitNew
  dsimp only
  rw [route]
  exact if_neg (Nat.not_lt.mpr fits)

theorem State.admitNew_noKey {reason : Reason} (route : a.destinations[c.route] = some d)
    (fits : m + 24 + plainLength c ≤ 1472) (key : keyTest a.slots[(a.tills[c.till]).slot] = .error reason) :
    a.admitNew (.accepted c) f m = a.standIn c.till reason (some c.seq) c.sourcePort := by
  rw [State.admitNew_fits route fits, key]

theorem State.admitNew_busy (route : a.destinations[c.route] = some d) (fits : m + 24 + plainLength c ≤ 1472)
    (key : keyTest a.slots[(a.tills[c.till]).slot] = .ok b) (busy : a.freeSlots = [] ∨ 64 ≤ a.occupied) :
    a.admitNew (.accepted c) f m = a.standIn c.till .busy (some c.seq) c.sourcePort := by
  rw [State.admitNew_fits route fits, key]
  dsimp only
  cases free : a.freeSlots with
  | nil => rfl
  | cons g rest => exact if_neg (Nat.not_lt.mpr (busy.resolve_left (by simp [free])))

theorem State.admitNew_opens {g : Fin 64} {rest : List (Fin 64)} (route : a.destinations[c.route] = some d)
    (fits : m + 24 + plainLength c ≤ 1472) (key : keyTest a.slots[(a.tills[c.till]).slot] = .ok b)
    (free : a.freeSlots = g :: rest) (room : a.occupied < 64) :
    a.admitNew (.accepted c) f m = a.openExchange c d b g rest f := by
  rw [State.admitNew_fits route fits, key, free]
  exact if_pos room

/-- The exchange opened, by the till's slot, deadline and number (R92). -/
theorem State.openExchange_eq {g : Fin 64} {rest : List (Fin 64)} {k : Fin 16} {deadline number : Nat}
    (slot : a.tills[c.till].slot = k) (code : deadlineOf a.tills[c.till].timeoutCode = deadline)
    (numbered : a.tills[c.till].number = number) :
    a.openExchange c d b g rest f =
      (({ a with
          frames := a.frames.set g f, freeSlots := rest, nextJob := a.nextJob + 1
          tills := a.tills.set c.till
            { a.tills[c.till] with
              exchange := some
                { phase := .admitted, seq := c.seq, sourcePort := c.sourcePort, slot := k, bank := b
                  generation := (a.bank k b).generation, counter := (a.bank k b).counter + 1, deadline := deadline
                  expiredWhileVerifying := false, wrapJob := some a.nextJob, verifyJob := none } } } :
          State).setBank k b { a.bank k b with counter := (a.bank k b).counter + 1, refs := (a.bank k b).refs + 2 }).enterJob
        { id := a.nextJob
          work := .wrap
            { till := c.till, slot := k, bank := b, generation := (a.bank k b).generation
              counter := (a.bank k b).counter + 1, tillNumber := number, frame := g } c d } := by
  subst slot code numbered
  rfl

/-- Every refusal is a stand-in of its reason. -/
theorem State.RefusesFor.admitNew {reason : Reason} {k : Fin 16} (named : cap.till = i) (slot : a.tills[i].slot = k)
    (legal : a.slots[k].Legal) (refuses : a.RefusesFor i m cap reason) : a.admitNew cap f m = a.standIn i reason cap.seq cap.port := by
  cases cap with
  | refused j route why q port =>
    have same : j = i := named
    have reasons : reason = why := refuses
    subst same reasons
    rfl
  | accepted c =>
    have same : c.till = i := named
    subst same slot
    obtain ⟨route, rfl⟩ | ⟨route, rest⟩ := refuses
    · exact State.admitNew_noRoute route
    · obtain ⟨d, found⟩ := Option.ne_none_iff_exists'.mp route
      obtain ⟨large, rfl⟩ | ⟨fits, key⟩ := rest
      · exact State.admitNew_oversize found large
      · obtain ⟨first, second, rfl⟩ | ⟨b, live, ⟨spent, rfl⟩ | ⟨below, busy, rfl⟩⟩ := key
        · exact State.admitNew_noKey found fits (keyTest_of_none_live first second)
        · exact State.admitNew_noKey found fits (keyTest_of_spent legal live spent)
        · exact State.admitNew_busy found fits (keyTest_of_live legal live below) busy

end Sys2Proof.Machine
end

section
/-! R87 to R92: admission. -/

open Sys2Proof Sys2Proof.Machine

/-- Settles O37: at step 3 the till's slot is the one that the tests read, and each failed test is one of admission's. -/
theorem admissionRefusesWithAStandIn : Obligations.AdmissionRefusesWithAStandIn := by
  intro s wire f i r cap reason request fresh a legal refuses
  obtain ⟨named, _⟩ := exec_frameReceived_request request
  have till := s.atStep3_till i
  have slot : a.tills[i].slot = s.tills[i].slot := by rw [show a.tills[i] = _ from till]
  exact exec_admission request fresh (refuses.admitNew named slot legal)

/-- Settles O36: the tests all pass, and the exchange opens in the state of step 3. -/
theorem admissionOpensTheExchange : Obligations.AdmissionOpensTheExchange := by
  intro s wire f i r c d b g rest request fresh a e k route fits legal live below free room opened target
  obtain ⟨rfl, port⟩ := captureRequest_accepted request.2.2.2.2
  have till := s.atStep3_till c.till
  have slot : a.tills[c.till].slot = e.slot := by rw [show a.tills[c.till] = _ from till]
  have code : a.tills[c.till].timeoutCode = e.timeoutCode := by rw [show a.tills[c.till] = _ from till]
  have number : a.tills[c.till].number = e.number := by rw [show a.tills[c.till] = _ from till]
  have key : ∀ j : Fin 16, j = e.slot → keyTest a.slots[j] = .ok b := by
    rintro _ rfl
    exact keyTest_of_live legal live below
  refine exec_admission request (fun x held same => fresh x held (Option.some.inj same))
    ((State.admitNew_opens route fits (key _ slot) free room).trans ?_)
  rw [State.openExchange_eq slot (by rw [code]) number, port]
  rfl
end

section
/-! SUPPORT. Replies and management messages as they arrive (R48, R97 to R101, R166 to R168). -/

namespace Sys2Proof.Machine

variable {s a : State} {p : PortId} {i : Fin 128} {x : Exchange} {f wire : Bytes} {c : Context}

/-! ## Replies -/

theorem State.ReplyAt.arrive (h : s.ReplyAt f) : s.arrive .L f = s.replyArrive f := by
  obtain ⟨notArp, addressed, accepted, udp, notManagement, reply⟩ := h
  have notArp : isArpRequest s.factory.station (s.ownAddress .L) f = false := notArp
  rw [State.arrive_of_accepted notArp (.inl addressed) accepted]
  simp [State.deliver, udp, notManagement, reply]

/-- R48: no valid entry has the trailer's number, or it is out of range. -/
theorem State.replyArrive_of_unknown (form : replyFormOk (udpPayload f) = true)
    (unknown : ∀ j : Fin 128, s.tills[j].valid = true →
      s.tills[j].number = fieldNat (replyTrailer (udpPayload f)) 6 2 → s.tills[j].number = 0 ∨ 4095 < s.tills[j].number) :
    s.replyArrive f = (s.latch .lateReply).bump .lateReplies := by
  have missed : s.findTill (fun t => t.valid && t.number == fieldNat (replyTrailer (udpPayload f)) 6 2 &&
      decide (1 ≤ fieldNat (replyTrailer (udpPayload f)) 6 2 ∧
        fieldNat (replyTrailer (udpPayload f)) 6 2 ≤ Config.tillNumberMax)) = none := by
    refine State.findTill_eq_none_iff.mpr fun j => Bool.eq_false_iff.mpr fun found => ?_
    simp only [Bool.and_eq_true, beq_iff_eq, decide_eq_true_eq] at found
    obtain ⟨⟨valid, number⟩, low, high⟩ := found
    have out := unknown j valid number
    have top : fieldNat (replyTrailer (udpPayload f)) 6 2 ≤ 4095 := high
    omega
  unfold State.replyArrive
  rw [if_pos form]
  dsimp only
  rw [missed]
  rfl

/-- R48: the one valid entry that the trailer names. -/
theorem State.replyArrive_of_found (form : replyFormOk (udpPayload f) = true) (valid : s.tills[i].valid = true)
    (number : s.tills[i].number = fieldNat (replyTrailer (udpPayload f)) 6 2) (low : 1 ≤ s.tills[i].number)
    (high : s.tills[i].number ≤ Config.tillNumberMax)
    (unique : ∀ j : Fin 128, s.tills[j].valid = true → s.tills[j].number = s.tills[i].number → j = i) :
    s.replyArrive f = s.matchReply i f := by
  have found : s.findTill (fun t => t.valid && t.number == fieldNat (replyTrailer (udpPayload f)) 6 2 &&
      decide (1 ≤ fieldNat (replyTrailer (udpPayload f)) 6 2 ∧
        fieldNat (replyTrailer (udpPayload f)) 6 2 ≤ Config.tillNumberMax)) = some i := by
    rw [← number]
    refine State.findTill_eq_some_of_unique ?_ fun j named => ?_
    · rw [valid, beq_self_eq_true, decide_eq_true ⟨low, high⟩]
      rfl
    · simp only [Bool.and_eq_true, beq_iff_eq] at named
      exact unique j named.1.1 named.1.2
  unfold State.replyArrive
  rw [if_pos form]
  dsimp only
  rw [found]

theorem replyMatches_iff {trailer : Bytes} :
    replyMatches x trailer = true ↔
      fieldNat trailer 4 1 = x.slot.val ∧ byteAt trailer 5 = x.generation ∧ fieldNat trailer 8 4 = x.counter := by
  simp [replyMatches, and_assoc]

theorem State.matchReply_of_none (none : s.tills[i].exchange = none) : s.matchReply i f = s.lateReply := by
  rw [State.matchReply, none]

theorem State.matchReply_admitted (held : s.tills[i].exchange = some x) (phase : x.phase = .admitted) :
    s.matchReply i f = s.lateReply := by
  rw [State.matchReply, held]
  dsimp only
  rw [phase]

theorem State.matchReply_verifying (held : s.tills[i].exchange = some x) (phase : x.phase = .verifying) :
    s.matchReply i f = s.bump .replyBusy := by
  rw [State.matchReply, held]
  dsimp only
  rw [phase]

/-- R98: an AWAITING exchange's tests. -/
theorem State.matchReply_awaiting (held : s.tills[i].exchange = some x) (phase : x.phase = .awaiting) :
    s.matchReply i f =
      if replyMatches x (replyTrailer (udpPayload f)) then
        match s.freeSlots with
        | [] => s.bump .replyBusy
        | k :: rest =>
          if s.occupied < Config.queueEntries then s.acceptReply i x k rest f
          else s.bump .replyBusy
      else s.lateReply := by
  rw [State.matchReply, held]
  dsimp only
  rw [phase] <;> rfl

theorem State.matchReply_unnamed (held : s.tills[i].exchange = some x) (phase : x.phase = .awaiting)
    (other : replyMatches x (replyTrailer (udpPayload f)) ≠ true) : s.matchReply i f = s.lateReply := by
  rw [State.matchReply_awaiting held phase, if_neg other]

theorem State.matchReply_busy (held : s.tills[i].exchange = some x) (phase : x.phase = .awaiting)
    (named : replyMatches x (replyTrailer (udpPayload f)) = true) (busy : s.freeSlots = [] ∨ 64 ≤ s.occupied) :
    s.matchReply i f = s.bump .replyBusy := by
  rw [State.matchReply_awaiting held phase, if_pos named]
  cases free : s.freeSlots with
  | nil => rfl
  | cons g rest => exact if_neg (Nat.not_lt.mpr (busy.resolve_left (by simp [free])))

theorem State.matchReply_accepted {g : Fin 64} {rest : List (Fin 64)} (held : s.tills[i].exchange = some x)
    (phase : x.phase = .awaiting) (named : replyMatches x (replyTrailer (udpPayload f)) = true)
    (free : s.freeSlots = g :: rest) (room : s.occupied < 64) : s.matchReply i f = s.acceptReply i x g rest f := by
  rw [State.matchReply_awaiting held phase, if_pos named, free]
  exact if_pos room

/-- A reply's arrival at the entry that it names. -/
theorem exec_reply {u : State} (reply : s.ReplyFor wire f i) (matched : (s.setReceive .L none).matchReply i f = u) :
    ∃ t, exec (.frameReceived .L wire) s = .next t ∧ SettlesTo u t := by
  obtain ⟨arrives, replyAt, form, valid, number, low, high, unique⟩ := reply
  have at_a : (s.setReceive .L none).ReplyAt f := replyAt
  refine exec_arrives arrives (at_a.arrive.trans (Eq.trans ?_ matched))
  exact State.replyArrive_of_found form (by exact valid) (by exact number) (by exact low) (by exact high) unique

/-! ## Management messages -/

theorem State.ManagementAt.arrive (h : s.ManagementAt p f) : s.arrive p f = s.mgmtArrive p (s.bootstrap p f) f := by
  obtain ⟨notArp, named, accepted, udp, management⟩ := h
  rw [State.arrive_of_accepted notArp named accepted]
  simp [State.deliver, udp, management]

theorem State.mgmtArrive_busy {bootstrap : Bool} (busy : s.mgu ≠ .idle) :
    s.mgmtArrive p bootstrap f = s.bump .mgmtBusy := if_pos busy

theorem State.mgmtArrive_rejected {bootstrap : Bool} (idle : s.mgu = .idle)
    (fails : messageFormOk s.factory.serial (udpPayload f) = false ∨
      s.mgmtKeys.verifying (originOf p bootstrap) = none) : s.mgmtArrive p bootstrap f = s.rejectMessage := by
  rw [State.mgmtArrive, if_neg (not_not.mpr idle)]
  dsimp only
  rcases fails with form | key
  · rw [form]
  · rw [key]
    cases messageFormOk s.factory.serial (udpPayload f) <;> rfl

/-- The context of a message (R168). -/
def messageContext (p : PortId) (origin : Origin) (key : Key) (f : Bytes) : Context :=
  { origin := origin, port := p, senderMac := etherSource f, senderIp := ipSource f
    senderPort := udpSource f, answerIp := ipDestination f, answerPort := udpDestination f
    tagControl := tagControlOf f, key := key, sequence := 0, nextItem := 1, pendingKeys := none
    restartPending := false, replacedPorts := [], job := none }

theorem State.mgmtArrive_taken {bootstrap : Bool} {key : Key} (idle : s.mgu = .idle)
    (form : messageFormOk s.factory.serial (udpPayload f) = true)
    (verifies : s.mgmtKeys.verifying (originOf p bootstrap) = some key) :
    s.mgmtArrive p bootstrap f =
      ({ s with mgu := .authenticating, message := udpPayload f } : State).withMgmtJob
        (messageContext p (originOf p bootstrap) key f) (.mgmtTag key) := by
  rw [State.mgmtArrive, if_neg (not_not.mpr idle)]
  dsimp only
  rw [form, verifies]
  exact State.offerMgmt_eq (by rfl) _

end Sys2Proof.Machine
end

section
/-! R48, R97 to R101, R166 to R168, R188: replies and management messages. -/

open Sys2Proof Sys2Proof.Machine

/-- Settles O38: the reply's till is looked up, then each row of the match is one case. -/
theorem repliesAreMatchedWithTheRecord : Obligations.RepliesAreMatchedWithTheRecord := by
  intro s wire f a m trailer names
  have named (x : Exchange) : names x ↔ replyMatches x (replyTrailer (udpPayload f)) = true := replyMatches_iff.symm
  refine ⟨fun arrives replyAt form unknown => ?_, fun i reply => ⟨fun late => ?_, fun x held busy => ?_,
    fun x g rest held phase names free room => ?_⟩⟩
  · have at_a : a.ReplyAt f := replyAt
    exact exec_arrives arrives (at_a.arrive.trans (State.replyArrive_of_unknown form unknown))
  · refine exec_reply reply ?_
    obtain none | ⟨x, held, admitted | ⟨awaiting, other⟩⟩ := late
    · exact State.matchReply_of_none (by exact none)
    · exact State.matchReply_admitted (by exact held) admitted
    · exact State.matchReply_unnamed (by exact held) awaiting ((named x).not.mp other)
  · refine exec_reply reply ?_
    obtain verifying | ⟨awaiting, names, full⟩ := busy
    · exact State.matchReply_verifying (by exact held) verifying
    · exact State.matchReply_busy (by exact held) awaiting ((named x).mp names) full
  · intro target k
    exact exec_reply reply (State.matchReply_accepted (by exact held) phase ((named x).mp names) (by exact free) room)

/-- Settles O39: a frame to a replaced port is busy wherever it comes in, and MGU's own tests give the other cases. -/
theorem managementMessagesAreTakenOrDropped : Obligations.ManagementMessagesAreTakenOrDropped := by
  refine ⟨fun s p wire f arrives replaced => ?_, fun s p wire f arrives management => ?_⟩
  · exact exec_arrives arrives (State.arrive_of_replaced ((s.setReceive_replacedAt p f).trans replaced))
  · intro a origin key
    have at_a : a.ManagementAt p f := by cases p <;> exact management
    have mgu : a.mgu = s.mgu := by cases p <;> rfl
    have serial : a.factory.serial = s.factory.serial := by cases p <;> rfl
    have from_ : originOf p (a.bootstrap p f) = origin := by
      cases p with
      | L => rfl
      | T =>
        change (if s.bootstrap .T f = true then Origin.remote else .store) =
          if PortId.T = .T ∧ s.bootstrap .T f = false then .store else .remote
        cases s.bootstrap .T f <;> rfl
    have verifies : a.mgmtKeys.verifying (originOf p (a.bootstrap p f)) = key := by
      have keys : a.mgmtKeys = s.mgmtKeys := by cases p <;> rfl
      rw [from_, keys]
      change _ = if origin = .store then s.mgmtKeys.lmk else some s.mgmtKeys.mtk
      cases origin <;> rfl
    refine ⟨fun busy => ?_, fun idle fails => ?_, fun k idle form named => ?_⟩
    · exact exec_arrives arrives (at_a.arrive.trans (State.mgmtArrive_busy (by rw [mgu]; exact busy)))
    · exact exec_arrives arrives (at_a.arrive.trans
        (State.mgmtArrive_rejected (mgu.trans idle) (by rw [serial, verifies]; exact fails)))
    · refine exec_arrives arrives (at_a.arrive.trans ?_)
      rw [State.mgmtArrive_taken (mgu.trans idle) (by rw [serial]; exact form) (verifies.trans named), from_]
      rfl
end

section
/-! SUPPORT. Completed payment jobs case by case (R93 to R96, R102, R103). -/

namespace Sys2Proof.Machine

variable {s a : State} {p : PortId} {e : OwnEntry} {g : JobTarget} {c : Capture} {d : Destination} {v : WrapValues}
  {x : Exchange} {id n : Nat} {l : Fin 4}

/-! ## Offers (R7, R160) -/

theorem State.offerOwn_down (down : (s.port p).link = .down) : s.offerOwn p e = (s.releaseEntry p e, .taken) := if_pos down

theorem State.offerOwn_blocked (up : (s.port p).link = .up) (line : p = .L)
    (blocks : guardPasses (s.heldFrame p e) = false) :
    s.offerOwn p e = (s.guardBlocked.releaseEntry p e, .blocked) := by
  rw [State.offerOwn, if_neg (by rw [up]; decide), if_pos ⟨line, blocks⟩]

theorem State.offerOwn_queued (up : (s.port p).link = .up) (passes : p = .L → guardPasses (s.heldFrame p e) = true) :
    s.offerOwn p e =
      ((s.setPort p { s.port p with ownQueue := (s.port p).ownQueue ++ [e] }).arbiter p, .taken) := by
  rw [State.offerOwn, if_neg (by rw [up]; decide), if_neg (fun h => by simp [passes h.1] at h)]

/-! ## The job's frame slot -/

/-- A frame built in a slot that is freed leaves no trace. -/
theorem State.freeFrame_set (s : State) (k : Fin 64) (f : Bytes) (n : BitVec 16) :
    ({ s with frames := s.frames.set k f, ident := n } : State).freeFrame k =
      { s with frames := s.frames.set k [], freeSlots := s.freeSlots ++ [k], ident := n } := by
  unfold State.freeFrame
  dsimp only
  rw [Vector.set_set]

theorem State.guardBlocked_freeFrame (s : State) (k : Fin 64) :
    s.guardBlocked.freeFrame k = (s.freeFrame k).guardBlocked := by
  unfold State.guardBlocked
  rw [State.bump_eq, State.bump_eq]
  rfl

/-! ## WRAP jobs (R93 to R96) -/

/-- A blocked request leaves nothing but the identification value and the block's count. -/
theorem State.wrapBuilt_guardBlocked (a : State) (g : JobTarget) (c : Capture) (d : Destination) (v : WrapValues) :
    (a.wrapBuilt g c d v).guardBlocked.releaseEntry .L (.wrapped g.frame) =
      ({ a with
        frames := a.frames.set g.frame [], freeSlots := a.freeSlots ++ [g.frame], ident := a.ident + 1 } :
      State).guardBlocked :=
  calc (a.wrapBuilt g c d v).guardBlocked.freeFrame g.frame
      = ((a.wrapBuilt g c d v).freeFrame g.frame).guardBlocked := State.guardBlocked_freeFrame _ _
    _ = _ := congrArg State.guardBlocked (a.freeFrame_set g.frame (a.wrappedFrame g c d v) (a.ident + 1))

/-- The wrapped request in the job's slot. -/
theorem State.wrapBuilt_held (a : State) (g : JobTarget) (c : Capture) (d : Destination) (v : WrapValues) :
    (a.wrapBuilt g c d v).heldFrame .L (.wrapped g.frame) = a.wrappedFrame g c d v := by
  change (a.frames.set g.frame (a.wrappedFrame g c d v))[g.frame] = _
  rw [getElem_set_fin, if_pos rfl]

theorem State.sendWrapped_down (down : a.portL.link = .down) :
    a.sendWrapped g c d v x =
      ({ a with
          frames := a.frames.set g.frame [], freeSlots := a.freeSlots ++ [g.frame], ident := a.ident + 1 } :
        State).wrapTaken g x := by
  rw [State.sendWrapped_eq]
  dsimp only
  rw [State.offerOwn_down (p := .L) (by exact down)]
  exact congrArg (State.wrapTaken · g x) (a.freeFrame_set g.frame _ _)

theorem State.sendWrapped_passes (up : a.portL.link = .up) (passes : guardPasses (a.wrappedFrame g c d v) = true) :
    a.sendWrapped g c d v x =
      (({ a with
          frames := a.frames.set g.frame (a.wrappedFrame g c d v), ident := a.ident + 1
          portL := { a.portL with ownQueue := a.portL.ownQueue ++ [.wrapped g.frame] } } : State).arbiter .L).wrapTaken
        g x := by
  rw [State.sendWrapped_eq]
  dsimp only
  rw [State.offerOwn_queued (p := .L) (by exact up) (fun _ => by rw [State.wrapBuilt_held]; exact passes)]
  rfl

theorem State.sendWrapped_blocked (up : a.portL.link = .up) (blocks : guardPasses (a.wrappedFrame g c d v) = false) :
    a.sendWrapped g c d v x =
      ((({ a with
          frames := a.frames.set g.frame [], freeSlots := a.freeSlots ++ [g.frame], ident := a.ident + 1 } :
        State).guardBlocked).closeExchange g.till 1).standIn g.till .plainNumber (some x.seq) x.sourcePort := by
  rw [State.sendWrapped_eq]
  dsimp only
  rw [State.offerOwn_blocked (p := .L) (by exact up) rfl (by rw [State.wrapBuilt_held]; exact blocks),
    State.wrapBuilt_guardBlocked]
  exact if_neg Offer.noConfusion

theorem State.wrapDone_current (held : a.tills[g.till].exchange = some x) (current : x.wrapJob = some id) :
    a.wrapDone id g c d v = a.sendWrapped g c d v x := by
  rw [State.wrapDone, held]
  exact if_pos current

theorem State.wrapDone_detached (other : ∀ x, a.tills[g.till].exchange = some x → x.wrapJob ≠ some id) :
    a.wrapDone id g c d v = a.discardJob g := by
  unfold State.wrapDone
  cases held : a.tills[g.till].exchange with
  | none => rfl
  | some x => exact if_neg (other x held)

theorem exec_wrapCompletion {u : State} (runs : s.lanes[l] = some (.wrap id g c d v))
    (done : (s.finishLane l).wrapDone id g c d v = u) : exec (.wrapCompletion l) s = .next (conclude false s u) := by
  change execWrapCompletion l s = _
  rw [execWrapCompletion, runs]
  exact congrArg (fun b => Host.Outcome.next (conclude false s b)) done

/-! ## VERIFY jobs (R102, R103) -/

/-- The reply to forward, built in the job's slot. -/
def State.replyBuilt (a : State) (g : JobTarget) (n : Nat) (x : Exchange) : State :=
  { a with frames := a.frames.set g.frame (a.forwardedFrame g n x), ident := a.ident + 1 }

theorem State.forwardReply_eq (a : State) (g : JobTarget) (n : Nat) (x : Exchange) :
    a.forwardReply g n x =
      ((((a.replyBuilt g n x).offerOwn .T (.forwarded g.frame)).1).closeExchange g.till 1).bump .repliesForwarded := rfl

theorem State.forwardReply_down (down : a.portT.link = .down) :
    a.forwardReply g n x =
      (({ a with
          frames := a.frames.set g.frame [], freeSlots := a.freeSlots ++ [g.frame], ident := a.ident + 1 } :
        State).closeExchange g.till 1).bump .repliesForwarded := by
  rw [State.forwardReply_eq, State.offerOwn_down (p := .T) (by exact down)]
  exact congrArg (fun b : State => (b.closeExchange g.till 1).bump .repliesForwarded) (a.freeFrame_set g.frame _ _)

theorem State.forwardReply_up (up : a.portT.link = .up) :
    a.forwardReply g n x =
      ((({ a with
          frames := a.frames.set g.frame (a.forwardedFrame g n x), ident := a.ident + 1
          portT := { a.portT with ownQueue := a.portT.ownQueue ++ [.forwarded g.frame] } } :
        State).arbiter .T).closeExchange g.till 1).bump .repliesForwarded := by
  rw [State.forwardReply_eq, State.offerOwn_queued (p := .T) (by exact up) nofun]
  rfl

theorem State.verifyDone_current {pass : Bool} (held : a.tills[g.till].exchange = some x) (current : x.verifyJob = some id) :
    a.verifyDone id g n pass = if pass then a.forwardReply g n x else a.failReply g x := by
  rw [State.verifyDone, held]
  exact if_pos current

theorem State.verifyDone_detached {pass : Bool}
    (other : ∀ x, a.tills[g.till].exchange = some x → x.verifyJob ≠ some id) :
    a.verifyDone id g n pass = a.discardJob g := by
  unfold State.verifyDone
  cases held : a.tills[g.till].exchange with
  | none => rfl
  | some x => exact if_neg (other x held)

theorem exec_verifyCompletion {u : State} {trailer : Bytes} {w : VerifyValues}
    (runs : s.lanes[l] = some (.verify id g trailer n w)) (done : (s.finishLane l).verifyDone id g n w.pass = u) :
    exec (.verifyCompletion l) s = .next (conclude false s u) := by
  change execVerifyCompletion l s = _
  rw [execVerifyCompletion, runs]
  exact congrArg (fun b => Host.Outcome.next (conclude false s b)) done

end Sys2Proof.Machine
end

section
/-! R93 to R96, R102, R103: payment jobs. -/

open Sys2Proof Sys2Proof.Machine

/-- Settles O42: a completed payment job of no open exchange is discarded, whichever kind it is. -/
theorem detachedJobsAreDiscarded : Obligations.DetachedJobsAreDiscarded := by
  intro s l id g a discarded
  refine ⟨fun c d v runs other => ?_, fun trailer m v runs other => ?_⟩
  · have detached : a.wrapDone id g c d v = discarded :=
      State.wrapDone_detached (by rw [s.finishLane_tills]; exact other)
    exact ⟨_, exec_wrapCompletion runs detached, conclude_settles ..⟩
  · have detached : a.verifyDone id g m v.pass = discarded :=
      State.verifyDone_detached (by rw [s.finishLane_tills]; exact other)
    exact ⟨_, exec_verifyCompletion runs detached, conclude_settles ..⟩

/-- Settles O40: the lane's turn moves the engine alone, and the send has one case for each answer of port L. -/
theorem wrapCompletionSendsTheRequest : Obligations.WrapCompletionSendsTheRequest := by
  intro s l id g c d v x runs held current a message frame awaiting freed
  obtain ⟨w, lanes, m, shape⟩ := s.finishLane_shape l
  have held_a : a.tills[g.till].exchange = some x := by rw [show a.tills = s.tills from s.finishLane_tills l]; exact held
  have portL : a.portL = s.portL := by rw [show a = _ from shape]
  have ident : a.ident = s.ident := by rw [show a = _ from shape]
  have built : a.wrappedFrame g c d v = frame := by rw [show a = _ from shape]; rfl
  have event := exec_wrapCompletion runs (State.wrapDone_current held_a current)
  change exec (.wrapCompletion l) s = .next (conclude false s (a.sendWrapped g c d v x)) at event
  refine ⟨_, event, fun down => ?_, fun up passes => ?_, fun up blocks => ?_⟩
  · rw [State.sendWrapped_down (by rw [portL]; exact down), ident]
    exact conclude_settles ..
  · rw [State.sendWrapped_passes (by rw [portL]; exact up) (by rw [built]; exact passes), ident, built, portL]
    exact conclude_settles ..
  · rw [State.sendWrapped_blocked (by rw [portL]; exact up) (by rw [built]; exact blocks), ident]
    exact conclude_settles ..

/-- Settles O41: the verdict's two answers, and for each the state of port T or of the deadline. -/
theorem verifyCompletionForwardsOrFails : Obligations.VerifyCompletionForwardsOrFails := by
  intro s l id g trailer n v x runs held current a frame freed failed
  obtain ⟨w, lanes, m, shape⟩ := s.finishLane_shape l
  have held_a : a.tills[g.till].exchange = some x := by rw [show a.tills = s.tills from s.finishLane_tills l]; exact held
  have portT : a.portT = s.portT := by rw [show a = _ from shape]
  have ident : a.ident = s.ident := by rw [show a = _ from shape]
  have built : a.forwardedFrame g n x = frame := by rw [show a = _ from shape]; rfl
  have event := exec_verifyCompletion runs (State.verifyDone_current held_a current)
  refine ⟨_, event, fun pass down => ?_, fun pass up => ?_, fun fails fresh => ?_, fun fails expired => ?_⟩
  · rw [pass, if_pos rfl, State.forwardReply_down (by rw [portT]; exact down), ident]
    exact conclude_settles ..
  · rw [pass, if_pos rfl, State.forwardReply_up (by rw [portT]; exact up), ident, built, portT]
    exact conclude_settles ..
  · have returned : a.failReply g x =
        (failed.setExchange g.till (some { x with phase := .awaiting, verifyJob := none })).releaseRefs x.slot x.bank 1 :=
      if_neg (by rw [fresh]; decide)
    rw [fails, ← returned]
    exact conclude_settles ..
  · have lost : a.failReply g x = failed.closeLost g.till x 1 := if_pos expired
    change SettlesTo (failed.closeLost g.till x 1) _
    rw [fails, ← lost]
    exact conclude_settles ..
end

section
/-! SUPPORT. Results of the management unit's jobs (R69, R70, R113, R130, R169, R177). -/

namespace Sys2Proof.Machine

variable {s a : State} {c : Context} {l : Fin 4} {i : Fin 16} {b : BankId} {keys : List Key} {item : Item}
  {given : List (Key × CheckValue)} {pass : Bool}

/-! ## The one job with a result of a kind -/

/-- R113: the job whose kind no other lane runs is the one whose result is taken. -/
theorem State.mgmtResult_of_only {α : Type} {r : Running → Option α} {job : Running} {x : α}
    (runs : s.lanes[l] = some job) (result : r job = some x)
    (only : ∀ j : Fin 4, j ≠ l → ∀ other, s.lanes[j] = some other → r other = none) : s.mgmtResult r = some (l, x) := by
  cases found : s.mgmtResult r with
  | none =>
    have missed := List.findSome?_eq_none_iff.mp found l (List.mem_finRange l)
    simp [runs, result] at missed
  | some y =>
    obtain ⟨j, y⟩ := y
    obtain ⟨other, lane, same⟩ := s.mgmtResult_some found
    by_cases here : j = l
    · subst here
      cases runs.symm.trans lane
      rw [result] at same
      rw [Option.some.inj same]
    · rw [only j here other lane] at same
      cases same

theorem exec_mgmtTagResult (found : s.mgmtResult Running.mgmtTagResult = some (l, pass)) :
    exec .mgmtTagResult s = .next (conclude false s ((s.finishLane l).tagVerdict pass)) := by
  change execMgmtTagResult s = _
  rw [execMgmtTagResult, found]

theorem exec_keyUnwrapResult (found : s.mgmtResult Running.unwrapResult = some (l, given, keys, pass)) :
    exec .keyUnwrapResult s = .next (conclude false s ((s.finishLane l).unwrapVerdict given keys pass)) := by
  change execKeyUnwrapResult s = _
  rw [execKeyUnwrapResult, found]

/-! ## MGMT_TAG (R169) -/

theorem State.tagVerdict_eq (authenticating : a.mgu = .authenticating) (context : a.context = some c) :
    a.tagVerdict pass =
      if pass ∧ a.lastAccepted c.origin < messageSequence a.message then a.acceptMessage c else a.rejectMessage := by
  rw [State.tagVerdict, authenticating, context]

theorem State.lastAccepted_eq (s : State) (o : Origin) : s.lastAccepted o = if o = .remote then s.lastRemote else s.lastLocal := by
  cases o <;> rfl

theorem State.setLastAccepted_eq (s : State) (o : Origin) (n : Nat) :
    s.setLastAccepted o n =
      { s with
        lastRemote := if o = .remote then n else s.lastRemote
        lastLocal := if o = .remote then s.lastLocal else n } := by
  cases o <;> rfl

/-! ## KEY_UNWRAP (R69, R70, R177) -/

/-- R70: the bank that a stage fills is the STAGED one, or with none the first that is EMPTY. -/
theorem KeySlot.Legal.stageTarget_eq {k : KeySlot} (legal : k.Legal)
    (target : (k.bank b).state = .staged ∨
      (k.bank .A).state ≠ .staged ∧ (k.bank .B).state ≠ .staged ∧ (k.bank b).state = .empty ∧
        (b = .A ∨ (k.bank .A).state ≠ .empty)) :
    k.stageTarget = some b := by
  unfold KeySlot.stageTarget
  rcases target with staged | ⟨notA, notB, empty, first⟩
  · cases b with
    | A => exact if_pos staged
    | B =>
      have other : k.a.state ≠ .staged := fun both => by
        have cleared := legal (both.trans staged.symm)
        cases both.symm.trans cleared
      rw [if_neg other]
      exact if_pos staged
  · rw [if_neg (by exact notA), if_neg (by exact notB)]
    cases b with
    | A => exact if_pos empty
    | B =>
      rw [if_neg (by exact first.resolve_left nofun)]
      exact if_pos empty

theorem State.commitStage_eq (target : a.slots[i].stageTarget = some b) (x : KeyBank) :
    a.commitStage i x = ({ a with load := .none } : State).setBank i b x := by
  rw [State.commitStage, target]
  rfl

theorem State.unwrapVerdict_stage (named : a.itemAt = some item) (kind : item.kind = 17) :
    a.unwrapVerdict given keys pass = a.stageVerdict item.kind given keys pass := by
  rw [State.unwrapVerdict, named]
  exact if_pos kind

theorem State.unwrapVerdict_load (named : a.itemAt = some item) (kind : item.kind = 27) :
    a.unwrapVerdict given keys pass = a.loadVerdict item.kind keys pass := by
  rw [State.unwrapVerdict, named]
  exact if_neg (by rw [kind]; decide)

/-- R177: the keys that pass become pending, and the item is answered. -/
theorem State.loadVerdict_pass (context : a.context = some c) (load : a.load = .none) (kind : Byte) :
    a.loadVerdict kind keys true = a.answered { c with pendingKeys := recoveredMgmtKeys keys } kind .done [] := by
  unfold State.loadVerdict
  rw [if_pos rfl, context, Option.map_some]
  exact State.answer_eq_answered (s := { a with context := some { c with pendingKeys := recoveredMgmtKeys keys } }) rfl
    load kind _ _

theorem State.loadVerdict_fail (context : a.context = some c) (load : a.load = .none) (kind : Byte) :
    a.loadVerdict kind keys false = a.answered c kind .checkFail [] :=
  State.answer_eq_answered context load kind _ _

end Sys2Proof.Machine
end

section
/-! R168, R169, R174: the message's tag. -/

open Sys2Proof Sys2Proof.Machine

/-- Settles O43: no other lane has such a result, and the verdict's two answers exclude each other. -/
theorem tagResultAcceptsOrRejects : Obligations.TagResultAcceptsOrRejects := by
  intro s l id k pass c runs only authenticating context a n last
  have found : s.mgmtResult Running.mgmtTagResult = some (l, pass) :=
    State.mgmtResult_of_only runs rfl fun j other job lane => by
      cases job with
      | mgmtTag id' k' p' => exact absurd lane (only j id' k' p' other)
      | wrap | verify | keyUnwrap | responseTag => rfl
  obtain ⟨w, lanes, m, shape⟩ := s.finishLane_shape l
  have ready : a.mgu = .authenticating ∧ a.context = some c := by
    rw [show a = _ from shape]
    exact ⟨authenticating, context⟩
  have sequence : a.lastAccepted c.origin = last ∧ messageSequence a.message = n := by
    rw [State.lastAccepted_eq, show a = _ from shape]
    exact ⟨rfl, rfl⟩
  have event := exec_mgmtTagResult found
  rw [State.tagVerdict_eq ready.1 ready.2, sequence.1, sequence.2] at event
  refine ⟨_, event, fun accepted => ?_, fun rejected => ?_⟩
  · rw [if_pos accepted]
    have taken : a.acceptMessage c = ({ a with
        lastRemote := if c.origin = .remote then n else s.lastRemote
        lastLocal := if c.origin = .remote then s.lastLocal else n
        mgu := .executing, response := s.message.take 16
        context := some { c with sequence := n, nextItem := 1, job := none } } : State).bump .mgmtAccepted := by
      rw [State.acceptMessage, State.setLastAccepted_eq, sequence.2, show a = _ from shape]
    rw [← taken]
    exact conclude_settles ..
  · have fails : ¬ (pass = true ∧ last < n) := fun ⟨passes, greater⟩ =>
      rejected.elim (by rw [passes]; decide) (Nat.not_le.mpr greater)
    rw [if_neg fails]
    exact conclude_settles ..
end

section
/-! R69, R70, R130, R177: the keys unwrapped. -/

open Sys2Proof Sys2Proof.Machine

/-- Settles O44: no other lane has such a result; the load state tells a stage's keys from management keys. -/
theorem unwrapResultCommitsOrFails : Obligations.UnwrapResultCommitsOrFails := by
  intro s l id ktk given keys pass c item runs only context named a
  have found : s.mgmtResult Running.unwrapResult = some (l, given, keys, pass) :=
    State.mgmtResult_of_only runs rfl fun j other job lane => by
      cases job with
      | keyUnwrap id' k' g' r' p' => exact absurd lane (only j other id' k' g' r' p')
      | wrap | verify | mgmtTag | responseTag => rfl
  obtain ⟨w, lanes, m, shape⟩ := s.finishLane_shape l
  have context_a : a.context = some c := by rw [show a = _ from shape]; exact context
  have named_a : a.itemAt = some item := by rw [show a = _ from shape]; exact named
  have load_a : a.load = s.load := by rw [show a = _ from shape]
  have slots_a : a.slots = s.slots := by rw [show a = _ from shape]
  refine ⟨_, exec_keyUnwrapResult found, ?_, ?_, ?_, ?_, ?_⟩
  · intro i generation code b w u gw gu cw cu kind load legal recovered entries target passes
    subst passes recovered entries
    rw [State.unwrapVerdict_stage named_a kind, State.stageVerdict, load_a.trans load]
    dsimp only
    rw [if_pos rfl, State.commitStage_eq (b := b) (by rw [slots_a]; exact legal.stageTarget_eq target),
      State.answer_eq_answered (by exact context_a) rfl]
    exact conclude_settles ..
  · intro i generation code kind load fails
    subst fails
    rw [State.unwrapVerdict_stage named_a kind, State.stageVerdict, load_a.trans load]
    dsimp only
    rw [if_neg (by decide), State.answer_eq_answered (by exact context_a) rfl]
    exact conclude_settles ..
  · intro mtk ktk' kind load passes recovered
    subst passes recovered
    rw [State.unwrapVerdict_load named_a kind, State.loadVerdict_pass context_a (load_a.trans load)]
    exact conclude_settles ..
  · intro mtk ktk' lmk kind load passes recovered
    subst passes recovered
    rw [State.unwrapVerdict_load named_a kind, State.loadVerdict_pass context_a (load_a.trans load)]
    exact conclude_settles ..
  · intro kind load fails
    subst fails
    rw [State.unwrapVerdict_load named_a kind, State.loadVerdict_fail context_a (load_a.trans load)]
    exact conclude_settles ..
end

section
/-! SUPPORT. The response's tag job and its result (R159, R174, R175). -/

namespace Sys2Proof.Machine

variable {s a : State} {c : Context} {l : Fin 4} {tag : Bytes}

theorem concludeResponse_of_busy (busy : a.mgu ≠ .idle) : concludeResponse s a = conclude false s a := by
  refine if_neg ?_
  unfold State.restartDue
  rw [beq_eq_false_iff_ne.mpr busy, Bool.and_false]
  exact Bool.false_ne_true

theorem exec_responseCompletion (executing : s.mgu = .executing) (context : s.context = some c) (idle : c.job = none)
    (last : itemCount s.message < c.nextItem) :
    exec .responseCompletion s =
      .next (conclude false s (({ s with mgu := .tagging } : State).withMgmtJob c (.responseTag c.key))) := by
  have offered : s.completeResponse c.key = ({ s with mgu := .tagging } : State).withMgmtJob c (.responseTag c.key) :=
    State.offerMgmt_eq (by exact context) _
  rw [← offered]
  change execResponseCompletion s = _
  rw [execResponseCompletion, executing, context]
  exact if_pos ⟨idle, last⟩

theorem exec_responseTagResult (found : s.mgmtResult Running.responseTagResult = some (l, tag)) :
    exec .responseTagResult s = .next (concludeResponse s ((s.finishLane l).tagResponse tag)) := by
  change execResponseTagResult s = _
  rw [execResponseTagResult, found]

theorem State.arbiter_mgu (s : State) (p : PortId) : (s.arbiter p).mgu = s.mgu := by
  obtain ⟨x, v, n, shape, _⟩ := s.arbiter_shape p
  rw [shape]
  cases p <;> rfl

/-- R174: the response with its tag and headers, before it is offered. -/
def State.responseBuilt (a : State) (c : Context) (tag : Bytes) : State :=
  { a with
    mgu := .answering
    response := a.response ++ tag
    responseFrame := a.buildResponse c (a.response ++ tag)
    ident := a.ident + 1
    context := some { c with job := none } }

theorem State.tagResponse_eq (tagging : a.mgu = .tagging) (context : a.context = some c) :
    a.tagResponse tag = ((a.responseBuilt c tag).offerOwn c.port .response).1 := by
  rw [State.tagResponse, tagging, context]
  rfl

theorem State.responseBuilt_port (a : State) (c : Context) (tag : Bytes) (p : PortId) :
    (a.responseBuilt c tag).port p = a.port p := by
  cases p <;> rfl

/-- The response's end moves neither the event statuses nor the counters. -/
theorem State.guardBlocked_endResponse (s : State) : s.guardBlocked.endResponse = s.endResponse.guardBlocked := by
  unfold State.guardBlocked
  rw [State.bump_eq, State.bump_eq]
  rfl

/-- A restart loses what a blocked frame latches, and keeps its count. -/
theorem State.guardBlocked_loseWork (s : State) :
    s.guardBlocked.loseWork = ({ s with counters := (s.bump .guardBlocks).counters } : State).loseWork := by
  unfold State.guardBlocked
  rw [State.bump_eq, State.bump_eq]
  rfl

end Sys2Proof.Machine
end

section
/-! R159, R160, R174, R175: the response. -/

open Sys2Proof Sys2Proof.Machine

/-- Settles O45: the tag makes the response complete, and its offer has one case for each answer of the port; the message
ends with it where the port takes nothing. -/
theorem responseIsTaggedAndSent : Obligations.ResponseIsTaggedAndSent := by
  refine ⟨fun s c executing context idle last => ⟨_, exec_responseCompletion executing context idle last,
    conclude_settles ..⟩, ?_⟩
  intro s l id k tag c runs only tagging context a frame ended
  have found : s.mgmtResult Running.responseTagResult = some (l, tag) :=
    State.mgmtResult_of_only runs rfl fun j other job lane => by
      cases job with
      | responseTag id' k' t' => exact absurd lane (only j id' k' t' other)
      | wrap | verify | mgmtTag | keyUnwrap => rfl
  obtain ⟨w, lanes, m, shape⟩ := s.finishLane_shape l
  have ready : a.mgu = .tagging ∧ a.context = some c := by
    rw [show a = _ from shape]
    exact ⟨tagging, context⟩
  have port (p : PortId) : (a.responseBuilt c tag).port p = s.port p := by
    rw [State.responseBuilt_port, show a = _ from shape]
    cases p <;> rfl
  have built : (a.responseBuilt c tag).heldFrame c.port .response = frame := by
    rw [show a = _ from shape]
    rfl
  have ends : (a.responseBuilt c tag).endResponse = ended := by
    change _ = ({ a with
      ident := s.ident + 1, mgmtKeys := c.pendingKeys.getD s.mgmtKeys
      mgu := .idle, message := [], response := [], responseFrame := [], context := none } : State)
    rw [show a = _ from shape]
    rfl
  have event : exec .responseTagResult s =
      .next (concludeResponse s ((a.responseBuilt c tag).offerOwn c.port .response).1) :=
    (exec_responseTagResult found).trans
      (congrArg (fun b => Host.Outcome.next (concludeResponse s b)) (State.tagResponse_eq ready.1 ready.2))
  have busy : s.mgu ≠ .idle := by rw [tagging]; decide
  have down_offer (down : (s.port c.port).link = .down) :
      ((a.responseBuilt c tag).offerOwn c.port .response).1 = ended := by
    rw [State.offerOwn_down (by rw [port]; exact down)]
    exact ends
  have blocked_offer (up : (s.port c.port).link = .up) (line : c.port = .L) (blocks : guardPasses frame = false) :
      ((a.responseBuilt c tag).offerOwn c.port .response).1 = ended.guardBlocked := by
    rw [State.offerOwn_blocked (by rw [port]; exact up) line (by rw [built]; exact blocks), ← ends]
    exact State.guardBlocked_endResponse _
  have blocked_mgu : ended.guardBlocked.mgu = .idle := by
    unfold State.guardBlocked
    rw [State.bump_eq]
    rfl
  have lost : ended.loseWork = ({ s with mgmtKeys := c.pendingKeys.getD s.mgmtKeys } : State).loseWork := by
    rw [← ends, show a = _ from shape]
    rfl
  refine ⟨_, event, fun up passes => ?_, fun down staying => ?_, fun up line blocks staying => ?_, fun down pending => ?_,
    fun up line blocks pending => ?_⟩
  · have queued : ((a.responseBuilt c tag).offerOwn c.port .response).1 =
        ((({ a with
            ident := s.ident + 1, mgu := .answering, response := s.response ++ tag
            responseFrame := frame, context := some { c with job := none } } : State).setPort c.port
          { s.port c.port with ownQueue := (s.port c.port).ownQueue ++ [.response] }).arbiter c.port) := by
      rw [State.offerOwn_queued (by rw [port]; exact up) (fun line => by rw [built]; exact passes line), port,
        show a = _ from shape]
      rfl
    have answers : ((a.responseBuilt c tag).offerOwn c.port .response).1.mgu = .answering := by
      rw [queued, State.arbiter_mgu, State.setPort_mgu]
    rw [concludeResponse_of_busy (by rw [answers]; decide), queued]
    exact conclude_settles ..
  · rw [down_offer down, concludeResponse_of_ended busy context rfl, if_neg (by rw [staying]; decide)]
    exact conclude_settles ..
  · rw [blocked_offer up line blocks, concludeResponse_of_ended busy context blocked_mgu, if_neg (by rw [staying]; decide)]
    exact conclude_settles ..
  · rw [down_offer down, concludeResponse_of_ended busy context rfl, if_pos pending]
    exact losesWork_of_same true s (a := { s with mgmtKeys := c.pendingKeys.getD s.mgmtKeys }) lost
  · rw [blocked_offer up line blocks, concludeResponse_of_ended busy context blocked_mgu, if_pos pending]
    refine losesWork_of_same true s
      (a := { s with mgmtKeys := c.pendingKeys.getD s.mgmtKeys, counters := (s.bump .guardBlocks).counters }) ?_
    rw [State.guardBlocked_loseWork, ← ends, show a = _ from shape, State.bump_eq, State.bump_eq]
    rfl
end
